-- ==== Sys2Proof/Word.lean ====
section
/-! DEFINITION. The word types of the VKL-24 and their plainest arithmetic. -/

namespace Sys2Proof

/-- One byte of host memory or of a line character. -/
abbrev Byte := BitVec 8

/-- A register or a host-memory word; host addresses are 32 bits (R77). -/
abbrev Word := BitVec 32

/-- A line address, 0..127 (R19). -/
abbrev LineAddr := BitVec 7

/-- A channel number, 0..4095. -/
abbrev Channel := BitVec 12

/-- An increment that stops at the largest value (counters R16, MissCount R64, ErrCount R65, FullCount R35). -/
def satInc {n : Nat} (x : BitVec n) : BitVec n := if x = BitVec.allOnes n then x else x + 1

end Sys2Proof
end

