-- ==== Sys2Proof/Syntax.lean ====
section
/-! DEFINITION. The commands of the VKL-24: one constructor of `Instr` for each row of spec/opcode_table.json. -/

namespace Sys2Proof

/-- A judged character as the receiver sampled it (R6): samples 4, 5 and 6 of each of its 11 bits. Bit 0 of each plane
is the start bit, bits 8..1 the data bits (least significant first on the line, R3), bit 9 the tag, bit 10 the first
stop bit. -/
structure RxChar where
  s4 : BitVec 11
  s5 : BitVec 11
  s6 : BitVec 11
  deriving DecidableEq, Repr

/-- What ended a hold in reset (R163). -/
inductive HoldSource where
  | powerOn | nReset
  deriving DecidableEq, Repr

/-- Which transaction a DMA completion belongs to: the one the unit now waits for, or one that a reset, a ring stop or
Halt left without an owner (R98, R107, R161, R164; log 7). -/
inductive Txn where
  | live | orphan
  deriving DecidableEq, Repr

/-- The result of a 16-byte descriptor read (R104, R124): a bus error or four words. -/
inductive DescRead where
  | error
  | data (w0 w1 w2 w3 : Word)
  deriving DecidableEq, Repr

/-- The result of an 8-byte map entry read (R79, R82); byte k of the entry stands at bits 8k+7..8k. -/
inductive EntryRead where
  | error
  | data (bytes : BitVec 64)
  deriving DecidableEq, Repr

/-- The result of one payload read (R105): a bus error or the bytes it brought. -/
inductive PayloadRead where
  | error
  | data (bytes : List Byte)
  deriving DecidableEq, Repr

/-- The result of a DMA write. -/
inductive WriteResult where
  | ok | error
  deriving DecidableEq, Repr

/-- The eleven line error counters in register order (R16). -/
inductive Counter where
  | noise | framing | check | format | gap | contention | stray | dup | rxdrop | breaks | timeouts
  deriving DecidableEq, Repr

/-- The width of a host access (R173). -/
inductive AccessWidth where
  | word | narrow
  deriving DecidableEq, Repr

/-- The commands: register accesses, DMA completions, line and clock events, and the starts of the units. -/
inductive Instr where
  | powerOnReset
  | hardReset
  | resetHoldEnd (src : HoldSource)
  | softReset
  | dozeRequest (ichk : Bool)
  | dozeCancel (ichk : Bool)
  | dozeEntry
  | wakeHeadCharacter (c : RxChar)
  | characterReceived (c : RxChar)
  | gapLimitTruncation
  | breakDetected
  | breakDetectorRearm
  | transmissionStart
  | frameSent
  | frameStopped
  | breakSent
  | replyWindowExpiry
  | broadcastSettled
  | pollIdlePauseEnd
  | anchorLost
  | moderationDelayExpiry
  | decision
  | stagingStart
  | fetchComplete (t : Txn) (r : DescRead)
  | walkComplete (t : Txn) (r : EntryRead)
  | markWriteComplete (t : Txn) (r : WriteResult)
  | payloadReadComplete (t : Txn) (r : PayloadRead)
  | errWriteBackComplete (t : Txn) (slot : Fin 2) (r : WriteResult)
  | drainStart
  | rxDescriptorReadComplete (t : Txn) (r : DescRead)
  | rxPayloadWriteComplete (t : Txn) (count : Nat) (r : WriteResult)
  | word2WriteComplete (t : Txn) (r : WriteResult)
  | word3WriteComplete (t : Txn) (r : WriteResult)
  | recordWriteIssue
  | recordWriteComplete (t : Txn) (r : WriteResult)
  | nop (notify : Bool) (tag : Byte) (arg : BitVec 16)
  | invalidateChannel (notify : Bool) (tag : Byte) (chan : BitVec 16)
  | invalidateAll (notify : Bool) (tag : Byte) (arg : BitVec 16)
  | fence (notify : Bool) (tag : Byte) (arg : BitVec 16)
  | lineBreak (notify : Bool) (tag : Byte) (arg : BitVec 16)
  | syncAll (notify : Bool) (tag : Byte) (arg : BitVec 16)
  | stationReset (notify : Bool) (tag : Byte) (station : BitVec 16)
  | ringStart (notify : Bool) (tag : Byte) (ring : BitVec 16)
  | ringStop (notify : Bool) (tag : Byte) (ring : BitVec 16)
  | illegalCommand (op : BitVec 4) (notify : Bool) (tag : Byte) (arg : BitVec 16)
  | resume
  | skip
  | hold
  | txDoorbell (ring : Fin 4) (v : Word)
  | rxDoorbell (v : Word)
  | cqheadWrite (v : Word)
  | txsizeWrite (ring : Fin 4) (v : Word)
  | rxsizeWrite (v : Word)
  | cqsizeWrite (v : Word)
  | linkEnable (pollen : Bool)
  | linkDisable (pollen : Bool)
  | pollEnable (en : Bool)
  | pollDisable (en : Bool)
  | rxEnable
  | rxDisable
  | intstatClear (v : Word)
  | intenWrite (v : Word)
  | stnchgClear (m : Fin 4) (v : Word)
  | gstatClear (v : Word)
  | cmdstatClear (v : Word)
  | stndatWrite (v : Word)
  | stndatRead
  | lsnWrite (k : Fin 4) (v : Word)
  | lsnRead (k : Fin 4)
  | cqmodWrite (v : Word)
  | counterClear (c : Counter) (v : Word)
  | registerWrite (w : AccessWidth) (off : BitVec 12) (v : Word)
  | falseStart
  | idleReferencePoint
  | fallingEdge
  | breakRunEnd
  | transmissionEndAfterBreak
  | wakeBreak
  deriving DecidableEq, Repr

end Sys2Proof
end

