-- ==== Sys2Proof/Decode.lean ====
section
/-! DEFINITION. The commands that words spell by the table's bits. spec/opcode_table.json gives no row any bits (the block
fetches no instruction), so no word spells a command (log 29). -/

namespace Sys2Proof

/-- The command that the word `w` of `nbits` bits spells: none, for the table gives no row any bits. -/
def decodeTableWord (_nbits _w : Nat) : Option Instr := none

end Sys2Proof
end

