-- ==== Sys2Proof/Config.lean ====
section
/-! DEFINITION. The fixed numbers of the VKL-24 (chapter 00 section 5) and its one free value. -/

namespace Sys2Proof.Config

/-- The value ID reads (13.4). -/
def idValue : Word := 0x00240001#32

/-- The largest payload of a frame in bytes (R21). -/
def payloadMax : Nat := 120

/-- The depth of the Command Queue (R144). -/
def commandDepth : Nat := 8

/-- The number of receive staging buffers (R122). -/
def rxBuffers : Nat := 2

/-- The number of entries of the Channel Cache (R80). -/
def cacheEntries : Nat := 16

/-- The character gap limit in bit times (R14). -/
def gapLimit : Nat := 3

/-- The run of low bit times that is a break (R10). -/
def breakRun : Nat := 14

/-- The low bit times of a break that the controller sends (R9). -/
def breakLow : Nat := 16

/-- All bit times of a break that the controller sends, its high tail included (R9). -/
def breakTotal : Nat := 19

/-- The unit of LLIM.ANCHTO in bit times (R60). -/
def anchorUnit : Nat := 256

/-- The unit of CQMOD.DELAY in bit times (R140). -/
def delayUnit : Nat := 16

/-- The initial value of the check register (R22). -/
def crcInit : BitVec 16 := 0xFFFF#16

/-- The generator polynomial of the check value without its top term (R22). -/
def crcPoly : BitVec 16 := 0x1021#16

/-- FREE VALUE (log 11): what the host bus returns for a read of STNDAT or LSNk that finds a parity error. The spec
halts the controller there (R159, R160) and states no data. -/
opaque haltedReadData : Nat → Word

end Sys2Proof.Config
end

