-- ==== Sys2Proof/Machine/State.lean ====
section
/-! DEFINITION. The state of the VKL-24 as plain data, one structure for each block of chapter 00 section 3, and its value
right after reset (R163 to R165). -/

namespace Sys2Proof.Machine

/-- The block has no fault that stops it: every failure of chapter 10 is a state of the Fault Unit or of Halt. Raised by
nobody. -/
inductive Fault where
  deriving DecidableEq, Repr

/-- Reasons a command has no meaning. -/
inductive Refusal where
  /-- The command has no meaning in the model yet. Raised by no arm of `exec`; safe. -/
  | notModelled (mnemonic : String)
  deriving DecidableEq, Repr

/-! ## Power, causes and codes -/

/-- The four power states (R166). -/
inductive Power where
  | run | dozePending | doze | halt
  deriving DecidableEq, Repr

/-- HALTCAUSE (R160). -/
inductive HaltCause where
  | none | stationParity | listenParity | stagingParity | rxbufParity | commandParity | cacheParity | doubleIntegrity
  deriving DecidableEq, Repr

/-- The role that LCFG.ROLE selects (R165). -/
inductive Role where
  | anchor | member
  deriving DecidableEq, Repr

/-- The ten interrupt causes (R141). -/
inductive IrqCause where
  | cq | rxd | fault | halt | cqfull | stn | anchlost | brk | cmderr | dberr
  deriving DecidableEq, Repr

/-- Attempt causes (R35, R135). -/
inductive AttemptCause where
  | none | timeout | contention | badReply | linkOff | brk | synced
  deriving DecidableEq, Repr

/-- Completion codes (R135). -/
inductive Code where
  | ok | noReply | refused | fullLimit | stopped | skipped | rejected
  deriving DecidableEq, Repr

/-- Global control and status (GCTL, GSTAT, HALTCAUSE, INTSTAT, INTEN) and the two holds of R163. -/
structure Global where
  power : Power := .run
  ichk : Bool := true
  lockWr : Bool := false
  relErr : Bool := false
  haltCause : HaltCause := .none
  intstat : BitVec 10 := 0
  inten : BitVec 10 := 0
  porHeld : Bool := false
  nrstHeld : Bool := false
  deriving DecidableEq, Repr

/-! ## The line -/

/-- LDIV, LCFG, LTIME and LLIM (R2, R3, R13, R37, R43, R52, R60, R64). -/
structure LineRegs where
  div : BitVec 16 := 104
  role : Role := .anchor
  stop2 : Bool := false
  brkSync : Bool := false
  guard : BitVec 8 := 4
  replyWin : BitVec 12 := 64
  missLim : BitVec 4 := 3
  burst : BitVec 4 := 4
  anchTo : BitVec 8 := 0
  deriving DecidableEq, Repr

/-- The line error counters (R16). -/
structure Counters where
  noise : BitVec 16 := 0
  framing : BitVec 16 := 0
  check : BitVec 16 := 0
  format : BitVec 16 := 0
  gap : BitVec 16 := 0
  contention : BitVec 16 := 0
  stray : BitVec 16 := 0
  dup : BitVec 16 := 0
  rxdrop : BitVec 16 := 0
  breaks : BitVec 16 := 0
  timeouts : BitVec 16 := 0
  deriving DecidableEq, Repr

/-- The break detector, and the run of the wake detector, which counts as it does (R10, R170). -/
inductive BreakDet where
  | armed
  | counting (run : Nat)
  | rearming
  deriving DecidableEq, Repr

/-- The character receiver, the idle reference point, the gap timer and the break detector (R5, R6, R10, R12, R14). -/
structure LineRx where
  active : Bool := false
  /-- A falling edge began a character that is not judged yet. -/
  inChar : Bool := false
  /-- A judged stop bit has not ended yet (R6). -/
  stopEnd : Bool := false
  /-- The line counts as not idle until the first sample that reads 1 (R5, R8). -/
  awaitHigh : Bool := false
  /-- Whole bit times since the idle reference point; none while the point is not set (R12). -/
  idle : Option Nat := none
  /-- Bit times since the gap timer started, at most 3; none while it is stopped (R14). -/
  gap : Option Nat := none
  brk : BreakDet := .armed
  deriving DecidableEq, Repr

/-- The three conditions of the transmitter (R1). -/
inductive TxPhase where
  | off | frame | brk
  deriving DecidableEq, Repr

/-- A character to send: its byte and its tag bit (R3). -/
structure TxChar where
  byte : Byte
  tag : Bool
  deriving DecidableEq, Repr

/-- The transmitter and the echo checker (R1, R3, R4, R9, R11, R15). -/
structure LineTx where
  phase : TxPhase := .off
  chars : List TxChar := []
  stop2 : Bool := false
  /-- Whole bit times since the first start bit, or since the first low bit of a break. -/
  bits : Nat := 0
  /-- Characters whose echo has been judged. -/
  echoed : Nat := 0
  contention : Bool := false
  afterBreak : Bool := false
  deriving DecidableEq, Repr

/-! ## Frames -/

/-- Frame kinds (R20). -/
inductive Kind where
  | data | ack | nak | poll | none | sync
  deriving DecidableEq, Repr

/-- The next character of a header (R26). -/
inductive HeaderField where
  | source | control | port | length
  deriving DecidableEq, Repr

/-- What a frame in Pass waits for (R27); `skip n` counts the characters to come. -/
inductive PassField where
  | source | control | port | length
  | skip (n : Nat)
  deriving DecidableEq, Repr

/-- The states of the Frame Receiver (R25). Check holds the high check byte once it has come (R26). -/
inductive FrxState where
  | hunt
  | header (next : HeaderField)
  | body
  | check (hi : Option Byte)
  | pass (next : PassField)
  deriving DecidableEq, Repr

/-- The Frame Receiver (02 section 2.5). The values of all its fields but the state at reset are the model's choice
(log 30). -/
structure Frx where
  state : FrxState := .hunt
  counted : Bool := false
  dest : LineAddr := 0
  src : LineAddr := 0
  kind : Kind := .none
  seq : Bool := false
  detail : BitVec 3 := 0
  port : BitVec 4 := 0
  length : Byte := 0
  payload : List Byte := []
  crc : BitVec 16 := Config.crcInit
  deriving DecidableEq, Repr

/-- A valid frame as the Link Engine takes it (R31). -/
structure Frame where
  dest : LineAddr
  src : LineAddr
  kind : Kind
  seq : Bool
  detail : BitVec 3
  port : BitVec 4
  payload : List Byte
  deriving DecidableEq, Repr

/-! ## The Link Engine -/

/-- The link states (R32). -/
inductive LinkState where
  | disabled | idle | guard | sending | awaiting | breaking
  deriving DecidableEq, Repr

/-- Exchange kinds (R33). -/
inductive XKind where
  | none | outbound | bcast | poll | dsync | syncAll | brk | member
  deriving DecidableEq, Repr

/-- The kind, sequence bit and detail of a frame the Link Engine has decided to send (R24). The sequence bit of a DATA
frame is taken anew when the frame is built (R38). -/
structure OutFrame where
  kind : Kind := .none
  seq : Bool := false
  detail : BitVec 3 := 0
  deriving DecidableEq, Repr

/-- The current exchange (R33). -/
structure Exchange where
  kind : XKind := .none
  station : LineAddr := 0
  lslot : Fin 4 := 0
  /-- The staging slot of the message the exchange serves; that message is in use (R35). -/
  slot : Option (Fin 2) := none
  out : OutFrame := {}
  /-- The sequence bit sent. -/
  seq : Bool := false
  /-- A poll has reached the anchor's own ACK or NAK (R49). -/
  tail : Bool := false
  /-- The station was SILENT when the attempt began (R46). -/
  beganSilent : Bool := false
  /-- Bit times since frame sent (R37). -/
  waited : Nat := 0
  /-- The reply deadline has passed (R37). -/
  passed : Bool := false
  /-- The reply window is met (R37). -/
  met : Bool := false
  /-- The start bit of the character in progress fell before the deadline (R37). -/
  inTime : Bool := false
  cause : AttemptCause := .none
  deriving DecidableEq, Repr

/-- The Link Engine and LINKCTL (R32, R33, R43, R60, R61). -/
structure Link where
  en : Bool := false
  pollen : Bool := false
  state : LinkState := .disabled
  x : Exchange := {}
  /-- A write of 0 to EN met Sending or Breaking and is not settled yet (R61). -/
  offPending : Bool := false
  outbound : Nat := 0
  pause : Option Nat := none
  anchCount : Nat := 0
  anchRunning : Bool := false
  anchLost : Bool := false
  deriving DecidableEq, Repr

/-- The Poll List (R70). -/
structure PollList where
  entries : Vector LineAddr 32 := Vector.replicate 32 0
  len : BitVec 6 := 0
  ptr : BitVec 5 := 0
  round : BitVec 3 := 0
  deriving DecidableEq, Repr

/-! ## Stations and listen slots -/

/-- Presence of a station (R62). -/
inductive Presence where
  | unknown | active | silent
  deriving DecidableEq, Repr

/-- A station record (R62). `sound` says that its parity agrees with its contents (R159). -/
structure Station where
  presence : Presence := .unknown
  accept : Bool := true
  outSeq : Bool := false
  inSeq : Option Bool := none
  resyncNeeded : Bool := true
  missCount : BitVec 4 := 0
  errCount : Byte := 0
  sound : Bool := true
  deriving DecidableEq, Repr

/-- Records 0 and 127 read as all zeros (R62). -/
def reservedRecord : Station := { accept := false, resyncNeeded := false }

/-- The records after a power-on or hard reset (R62). -/
def freshRecords : Vector Station 128 := ((Vector.replicate 128 {}).set 0 reservedRecord).set 127 reservedRecord

/-- The Station Table, the presence-change set and STNSEL (R62, R67, R68). -/
structure StationTable where
  records : Vector Station 128 := freshRecords
  changed : BitVec 128 := 0
  sel : LineAddr := 0
  deriving DecidableEq, Repr

/-- A listen slot (R74). -/
structure ListenSlot where
  address : LineAddr := 0
  enabled : Bool := false
  outSeq : Bool := false
  inSeq : Option Bool := none
  resyncWanted : Bool := false
  sound : Bool := true
  deriving DecidableEq, Repr

/-! ## The channel map -/

/-- What translation uses of a map entry (R78, R80). -/
structure MapEntry where
  p : Bool
  station : LineAddr
  port : BitVec 4
  retry : BitVec 4
  maxLen : Byte
  fullLimit : Byte
  byte7 : Byte
  deriving DecidableEq, Repr

/-- A cached entry (R80). V is always 1 in a cached entry. -/
structure CacheEntry where
  chan : Channel
  addr : Word
  e : MapEntry
  sound : Bool := true
  deriving DecidableEq, Repr

/-- A walk in flight (R82). -/
structure Walk where
  chan : Channel
  addr : Word
  permission : Bool
  deriving DecidableEq, Repr

/-- MAPBASE, MAPLEN, the Channel Cache (most recently used first) and the walk (R77, R80, R82). -/
structure ChannelMap where
  base : Word := 0
  len : BitVec 13 := 0
  cache : List CacheEntry := []
  walk : Option Walk := none
  deriving DecidableEq, Repr

/-- The working copy of a translation (R82) with its persona slot (R85). `cached` says that it came from a cache entry,
by a hit or by installation. -/
structure Working where
  e : MapEntry
  addr : Word
  persona : Fin 4
  cached : Bool
  deriving DecidableEq, Repr

/-- The snapshot of a staged message (R88); `byte7` is its image with Ref = 1, `maxLen` the effective value. -/
structure Snapshot where
  chan : Channel
  e : MapEntry
  addr : Word
  persona : Fin 4
  bcast : Bool
  deriving DecidableEq, Repr

/-! ## Transmit rings and staging -/

/-- Ring states (R101). -/
inductive RingState where
  | stopped | running | stopping | faulted
  deriving DecidableEq, Repr

/-- A transmit ring (R99 to R101); `before` is the state a FINISH fault interrupted (R111). -/
structure Ring where
  base : Word := 0
  size : BitVec 4 := 2
  prod : Byte := 0
  cons : Byte := 0
  state : RingState := .stopped
  before : RingState := .stopped
  deriving DecidableEq, Repr

/-- Where a message in finishing stands (R109, R111): its Err write is in flight, has failed, or its entry is held. -/
inductive FinishStep where
  | errWrite | faulted | held
  deriving DecidableEq, Repr

/-- The phase of a staged message (R103). -/
inductive SlotPhase where
  | fetch | translate | mark | load | ready
  | finishing (f : FinishStep)
  deriving DecidableEq, Repr

/-- A message in a transmit staging slot (R103, R35). `txn` is the address of the transaction in flight. -/
structure Message where
  ring : Fin 4
  index : Byte
  txn : Word
  phase : SlotPhase := .fetch
  chan : Channel := 0
  length : BitVec 7 := 0
  ioc : Bool := false
  quiet : Bool := false
  buffer : Word := 0
  cookie : Word := 0
  work : Option Working := none
  snap : Option Snapshot := none
  payload : List Byte := []
  attempts : Nat := 0
  lastCause : AttemptCause := .none
  fullCount : Byte := 0
  attempted : Bool := false
  code : Code := .ok
  wbFailed : Bool := false
  fenced : Bool := false
  sound : Bool := true
  deriving DecidableEq, Repr

/-! ## The receive path -/

/-- A frame in a receive staging buffer (R122). -/
structure RxFrame where
  peer : LineAddr
  port : BitVec 4
  payload : List Byte
  persona : Fin 4
  bcast : Bool
  sound : Bool := true
  deriving DecidableEq, Repr

/-- The step a drain has reached (R124 to R126); `written` counts the payload bytes whose writes have completed, `value` is
the word whose write is in flight. -/
inductive DrainStep where
  | desc
  | payload (buffer : Word) (capacity : Byte) (written : Nat)
  | word2 (value : Word)
  | word3 (value : Word)
  deriving DecidableEq, Repr

/-- A drain in progress and the address of its descriptor (R123, R124). -/
structure Drain where
  addr : Word
  step : DrainStep
  deriving DecidableEq, Repr

/-- The receive path (chapter 7). -/
structure RxPath where
  base : Word := 0
  size : BitVec 4 := 2
  prod : Byte := 0
  cons : Byte := 0
  en : Bool := false
  faulted : Bool := false
  buffers : List RxFrame := []
  drain : Option Drain := none
  deriving DecidableEq, Repr

/-! ## The completion queue -/

/-- Record kinds (R134). -/
inductive RecordKind where
  | message | ringStopped | commandDone
  deriving DecidableEq, Repr

/-- What waits for a holding-list entry (R136). A SKIPPED entry advances TXCONSn unless a TXSIZEn write took the advance
away (R172). -/
inductive Waiter where
  | slot (k : Fin 2)
  | skipped (advances : Bool)
  | notice
  | command
  deriving DecidableEq, Repr

/-- A holding-list entry (R135, R136). -/
structure Entry where
  kind : RecordKind
  waiter : Waiter
  ring : Fin 4 := 0
  code : Code := .ok
  attempts : Nat := 0
  lastCause : AttemptCause := .none
  index : Byte := 0
  station : LineAddr := 0
  wbFailed : Bool := false
  ioc : Bool := false
  bcast : Bool := false
  cookie : Word := 0
  fullCount : Byte := 0
  persona : Fin 4 := 0
  chan : Channel := 0
  quiet : Bool := false
  deriving DecidableEq, Repr

/-- A record write in flight: the position and the four words (R134). -/
structure RecordWrite where
  addr : Word
  w0 : Word
  w1 : Word
  w2 : Word
  w3 : Word
  deriving DecidableEq, Repr

/-- The Completion Writer (chapter 8). -/
structure Completion where
  base : Word := 0
  size : BitVec 4 := 4
  head : BitVec 10 := 0
  tail : BitVec 10 := 0
  phase : Bool := true
  count : Byte := 1
  delay : Byte := 0
  unsignalled : Byte := 0
  timer : Option Nat := none
  holding : List Entry := []
  inFlight : Option RecordWrite := none
  blocking : Bool := false
  deriving DecidableEq, Repr

/-! ## The command queue -/

/-- A queued command (R144). -/
structure Cmd where
  op : BitVec 4
  notify : Bool
  tag : Byte
  arg : BitVec 16
  sound : Bool := true
  deriving DecidableEq, Repr

/-- The progress of the head command (R146, R147): not begun; waiting to act; a FENCE whose set is recorded; a RING STOP
whose ring is Stopping; waiting for its COMMAND_DONE to leave the holding list. -/
inductive HeadProgress where
  | fresh | waiting | fencing | stopping | reporting
  deriving DecidableEq, Repr

/-- Command error codes (R149). -/
inductive CmdError where
  | none | illegal | arg | role | state | overflow
  deriving DecidableEq, Repr

/-- The Command Queue and CMDSTAT (R144, R149). -/
structure CommandQueue where
  queue : List Cmd := []
  head : HeadProgress := .fresh
  err : Bool := false
  errCode : CmdError := .none
  errTag : Byte := 0
  deriving DecidableEq, Repr

/-! ## Faults and DMA -/

/-- Fault sources (R151). -/
inductive Source where
  | integ | cq | rx
  | tx (n : Fin 4)
  deriving DecidableEq, Repr

/-- Fault kinds (R154). -/
inductive FaultKind where
  | cacheParity | descBus | mapBus | payloadBus | markBus | recordBus | cqBus | range | mapInvalid | mapStation
  | mapDenied | mapLength | descFormat
  deriving DecidableEq, Repr

/-- Fault phases (R154). -/
inductive FaultPhase where
  | na | fetch | translate | mark | load | finish
  deriving DecidableEq, Repr

/-- A fault (R151, R154); `ioc` and `cookie` are kept for the SKIPPED record. -/
structure FaultRecord where
  source : Source
  kind : FaultKind
  phase : FaultPhase
  sent : Bool := false
  index : Byte
  chan : Channel
  addr : Word
  ioc : Bool := false
  cookie : Word := 0
  deriving DecidableEq, Repr

/-- The Fault Record and the pending set, one place for each source code (R151, R152). -/
structure FaultUnit where
  record : Option FaultRecord := none
  waiting : Vector (Option FaultRecord) 7 := Vector.replicate 7 none
  deriving DecidableEq, Repr

/-- The kinds of DMA transaction the block issues. -/
inductive DmaKind where
  | fetch | walk | mark | payload | errWrite | rxDesc | rxPayload | word2 | word3 | record
  deriving DecidableEq, Repr

/-- Transactions in flight that no unit waits for: those a reset left, which bar new ones (R164), and the others. -/
structure Bus where
  afterReset : List DmaKind := []
  abandoned : List DmaKind := []
  deriving DecidableEq, Repr

/-- A disturbance of protected storage (R159), an input of the model (log 9). A disturbed cache entry may come to hold
another channel number (R92). -/
inductive Upset where
  | station (a : LineAddr)
  | listen (k : Fin 4)
  | staging (k : Fin 2)
  | rxBuffer (i : Nat)
  | command (i : Nat)
  | cache (i : Nat) (chan : Channel)
  deriving DecidableEq, Repr

/-! ## The state -/

/-- The state of the VKL-24. `pending` is the queue of commands from outside, `upsets` the storage disturbances still to
strike, `readData` what the last STNDAT or LSN read returned, `freeIndex` the counter of free values: these four are the
model's own (INVENTORY.md). `wakeDet` is the run of the wake detector (R170, log 18). -/
structure State where
  pending : List Instr := []
  upsets : List Upset := []
  readData : Word := 0
  freeIndex : Nat := 0
  glb : Global := {}
  line : LineRegs := {}
  counters : Counters := {}
  rx : LineRx := {}
  tx : LineTx := {}
  frx : Frx := {}
  wakeDet : BreakDet := .armed
  link : Link := {}
  poll : PollList := {}
  stn : StationTable := {}
  listen : Vector ListenSlot 4 := Vector.replicate 4 {}
  map : ChannelMap := {}
  rings : Vector Ring 4 := Vector.replicate 4 {}
  slots : Vector (Option Message) 2 := Vector.replicate 2 none
  rxp : RxPath := {}
  cq : Completion := {}
  cmd : CommandQueue := {}
  flt : FaultUnit := {}
  bus : Bus := {}
  deriving DecidableEq, Repr

/-- The controller right after a power-on reset, no longer held (R163 to R165). -/
def State.reset : State := {}

/-! ## Updates, one for each block -/

def State.setGlb (s : State) (v : Global) : State := { s with glb := v }
def State.setLine (s : State) (v : LineRegs) : State := { s with line := v }
def State.setCounters (s : State) (v : Counters) : State := { s with counters := v }
def State.setRx (s : State) (v : LineRx) : State := { s with rx := v }
def State.setTx (s : State) (v : LineTx) : State := { s with tx := v }
def State.setFrx (s : State) (v : Frx) : State := { s with frx := v }
def State.setWakeDet (s : State) (v : BreakDet) : State := { s with wakeDet := v }
def State.setLink (s : State) (v : Link) : State := { s with link := v }
def State.setPoll (s : State) (v : PollList) : State := { s with poll := v }
def State.setStn (s : State) (v : StationTable) : State := { s with stn := v }
def State.setListen (s : State) (v : Vector ListenSlot 4) : State := { s with listen := v }
def State.setMap (s : State) (v : ChannelMap) : State := { s with map := v }
def State.setRings (s : State) (v : Vector Ring 4) : State := { s with rings := v }
def State.setSlots (s : State) (v : Vector (Option Message) 2) : State := { s with slots := v }
def State.setRxp (s : State) (v : RxPath) : State := { s with rxp := v }
def State.setCq (s : State) (v : Completion) : State := { s with cq := v }
def State.setCmd (s : State) (v : CommandQueue) : State := { s with cmd := v }
def State.setFlt (s : State) (v : FaultUnit) : State := { s with flt := v }
def State.setBus (s : State) (v : Bus) : State := { s with bus := v }
def State.setRead (s : State) (v : Word) : State := { s with readData := v }

end Sys2Proof.Machine
end

