-- ==== Sys2Proof/Machine/Operands.lean ====
section
/-! DEFINITION. Reading and forming the words the block exchanges: sampled characters, frames and their check value,
descriptors, map entries, completion records, indices and effective field values. -/

namespace Sys2Proof

/-! ## Sampled characters (R3, R6) -/

/-- The value of each bit: the majority of its three samples (R6). -/
def RxChar.majority (c : RxChar) : BitVec 11 := (c.s4 &&& c.s5) ||| (c.s4 &&& c.s6) ||| (c.s5 &&& c.s6)

/-- Some bit's samples do not all agree (R6). -/
def RxChar.noisy (c : RxChar) : Bool := (c.s4 ^^^ c.s5) ||| (c.s4 ^^^ c.s6) != 0

/-- The start bit's value; 1 is a false start (R7). -/
def RxChar.start (c : RxChar) : Bool := c.majority.getLsbD 0

/-- The eight data bits, least significant bit first on the line (R3). -/
def RxChar.data (c : RxChar) : Byte := c.majority.extractLsb' 1 8

/-- The tag bit (R3). -/
def RxChar.tag (c : RxChar) : Bool := c.majority.getLsbD 9

/-- The first stop bit; 0 is a framing error (R8). -/
def RxChar.stop (c : RxChar) : Bool := c.majority.getLsbD 10

end Sys2Proof

namespace Sys2Proof.Machine

/-- The echo of a sent character is sound (R15). -/
def TxChar.echoSound (t : TxChar) (c : RxChar) : Bool :=
  !c.start && c.data == t.byte && c.tag == t.tag && c.stop

/-! ## Frames (R18 to R24) -/

/-- The code of a frame kind (R20). -/
def Kind.code : Kind → BitVec 4
  | .data => 1
  | .ack => 2
  | .nak => 3
  | .poll => 4
  | .none => 5
  | .sync => 6

/-- The kind of a code; codes 0 and 7..15 are undefined (R20). -/
def Kind.ofCode (c : BitVec 4) : Option Kind :=
  if c = 1 then some .data
  else if c = 2 then some .ack
  else if c = 3 then some .nak
  else if c = 4 then some .poll
  else if c = 5 then some .none
  else if c = 6 then some .sync
  else none

/-- NAK(FULL) (R20). -/
def detailFull : BitVec 3 := 1
/-- NAK(REFUSED) (R20). -/
def detailRefused : BitVec 3 := 2
/-- NONE(RESYNC WANTED) (R20). -/
def detailResync : BitVec 3 := 1

/-- The details a kind permits (R20). -/
def Kind.permits (k : Kind) (d : BitVec 3) : Bool :=
  match k with
  | .nak => d == detailFull || d == detailRefused
  | .none => d == 0 || d == detailResync
  | _ => d == 0

/-- The kinds whose sequence bit is fixed at 0 (R20). -/
def Kind.seqFixed : Kind → Bool
  | .data => false
  | .ack => false
  | _ => true

/-- The Control character (R20). -/
def controlByte (k : Kind) (seq : Bool) (detail : BitVec 3) : Byte :=
  detail ++ BitVec.ofBool (if k.seqFixed then false else seq) ++ k.code

/-- One shift of the check register (R22). -/
def crcShift (r : BitVec 16) : BitVec 16 := if r.msb then (r <<< 1) ^^^ Config.crcPoly else r <<< 1

/-- `n` shifts of the check register. -/
def crcShifts : Nat → BitVec 16 → BitVec 16
  | 0, r => r
  | n + 1, r => crcShifts n (crcShift r)

/-- Feeding one byte to the check register (R22). -/
def crcByte (r : BitVec 16) (b : Byte) : BitVec 16 := crcShifts 8 (r ^^^ (b ++ 0#8))

/-- The check value of a run of bytes (R22). -/
def crcOf (bytes : List Byte) : BitVec 16 := bytes.foldl crcByte Config.crcInit

/-- The characters after Head that the check value covers (R18, R22). -/
def frameBody (src : LineAddr) (k : Kind) (seq : Bool) (detail : BitVec 3) (port : BitVec 4) (payload : List Byte) :
    List Byte :=
  (0#1 ++ src) :: controlByte k seq detail ::
    (if k = .data then (0#4 ++ port) :: BitVec.ofNat 8 payload.length :: payload else [])

/-- The characters of a frame the controller sends (R18, R24): Head with tag 1, then the body and the check value, high
byte first, with tag 0. -/
def frameChars (dest src : LineAddr) (k : Kind) (seq : Bool) (detail : BitVec 3) (port : BitVec 4)
    (payload : List Byte) : List TxChar :=
  let body := frameBody src k seq detail port payload
  let crc := crcOf body
  ⟨0#1 ++ dest, true⟩ :: (body ++ [crc.extractLsb' 8 8, crc.extractLsb' 0 8]).map (⟨·, false⟩)

/-! ## Effective field values -/

/-- The effective guard gap (R13). -/
def LineRegs.guardEff (l : LineRegs) : Nat := if l.guard.toNat < 2 then 2 else l.guard.toNat

/-- The effective reply window (R37). -/
def LineRegs.replyEff (l : LineRegs) : Nat := if l.replyWin.toNat < 8 then 8 else l.replyWin.toNat

/-- The effective MISSLIM (R64). -/
def LineRegs.missEff (l : LineRegs) : Nat := if l.missLim = 0 then 1 else l.missLim.toNat

/-- The effective BURST (R43). -/
def LineRegs.burstEff (l : LineRegs) : Nat :=
  if l.burst = 0 then 1 else if 8 < l.burst.toNat then 8 else l.burst.toNat

/-- The effective COUNT (R140). -/
def Completion.countEff (c : Completion) : Nat := if c.count = 0 then 1 else c.count.toNat

/-- The effective MaxLen (R86). -/
def maxLenEff (m : Byte) : Byte := if 120 < m.toNat then 120 else m

/-! ## Index arithmetic (R100, R119, R132) -/

/-- The number of places of a ring or queue with this log2 size. -/
def sizeOf2 (log2 : BitVec 4) : Nat := 2 ^ log2.toNat

/-- An index advanced by one, to 0 at the wrap. -/
def nextIndex {w : Nat} (i : BitVec w) (log2 : BitVec 4) : BitVec w :=
  BitVec.ofNat w ((i.toNat + 1) % sizeOf2 log2)

/-- The places from `cons` up to `prod`. -/
def indexDistance {w : Nat} (prod cons : BitVec w) (log2 : BitVec 4) : Nat :=
  (prod.toNat + sizeOf2 log2 - cons.toNat) % sizeOf2 log2

/-- The address of place `i` of an array of 16-byte items, modulo 2^32 (R99, R118, R131). -/
def itemAddr {w : Nat} (base : Word) (i : BitVec w) : Word := base + BitVec.ofNat 32 (16 * i.toNat)

/-- A log2 ring size as stored (R99, R118). -/
def clampRingSize (v : Word) : BitVec 4 :=
  let k := v.extractLsb' 0 4
  if k.toNat < 2 then 2 else if 8 < k.toNat then 8 else k

/-- A log2 queue size as stored (R131). -/
def clampQueueSize (v : Word) : BitVec 4 :=
  let k := v.extractLsb' 0 4
  if k.toNat < 4 then 4 else if 10 < k.toNat then 10 else k

/-! ## Descriptors (R102, R121) -/

/-- Bits 31:26 and 23:19 of word 0 must be 0 (R102). -/
def descZeroMask : Word := 0xFCF80000#32

/-- A transmit descriptor has a format error (R102). -/
def txFormatError (w0 w3 : Word) : Bool :=
  w0 &&& descZeroMask != 0 || decide (120 < (w0.extractLsb' 12 7).toNat) || w3 != 0

/-- Word 0's Channel (R102). -/
def descChannel (w0 : Word) : Channel := w0.extractLsb' 0 12
/-- Word 0's Length (R102). -/
def descLength (w0 : Word) : BitVec 7 := w0.extractLsb' 12 7
/-- Word 0's IOC (R102). -/
def descIoc (w0 : Word) : Bool := w0.getLsbD 24
/-- Word 0's QUIET (R102). -/
def descQuiet (w0 : Word) : Bool := w0.getLsbD 25
/-- A receive descriptor's Capacity, bits 7:0 of word 1 (R121). -/
def rxCapacity (w1 : Word) : Byte := w1.extractLsb' 0 8

/-- Word 2 of a filled receive descriptor (R121). -/
def rxWord2 (f : RxFrame) (delivered : Nat) : Word :=
  0#6 ++ BitVec.ofBool (decide (delivered < f.payload.length)) ++ BitVec.ofBool f.bcast ++ 0#2 ++
    BitVec.ofNat 2 f.persona.val ++ 0#1 ++ BitVec.ofNat 7 delivered ++ f.port ++ 0#1 ++ f.peer

/-- Word 3 of a filled receive descriptor (R121). -/
def rxWord3 (f : RxFrame) : Word := 0#16 ++ BitVec.ofNat 8 f.payload.length ++ 0#7 ++ 1#1

/-- The bytes a drain delivers: the smaller of Length and Capacity (R125). -/
def RxFrame.delivered (f : RxFrame) (capacity : Byte) : Nat := min f.payload.length capacity.toNat

/-- What the payload step has still to write once `written` bytes are in host memory, as addresses and bytes in the order of
the writes: byte `i` of the payload goes to Buffer + i, modulo 2^32, and none at or past the delivered length (R125). -/
def RxFrame.unwritten (f : RxFrame) (buffer : Word) (capacity : Byte) (written : Nat) : List (Word × Byte) :=
  ((f.payload.take capacity.toNat).drop written).mapIdx fun i b => (buffer + BitVec.ofNat 32 (written + i), b)

/-! ## Map entries (R78) -/

/-- V of a map entry (R78). -/
def entryValid (b : BitVec 64) : Bool := b.getLsbD 0

/-- The fields of a map entry (R78). -/
def entryFields (b : BitVec 64) : MapEntry where
  p := b.getLsbD 1
  station := b.extractLsb' 8 7
  port := b.extractLsb' 16 4
  retry := b.extractLsb' 20 4
  maxLen := b.extractLsb' 24 8
  fullLimit := b.extractLsb' 32 8
  byte7 := b.extractLsb' 56 8

/-- Ref of an entry copy (R78). -/
def MapEntry.ref (e : MapEntry) : Bool := e.byte7.getLsbD 0
/-- Err of an entry copy (R78). -/
def MapEntry.err (e : MapEntry) : Bool := e.byte7.getLsbD 1
/-- Byte 7 with Ref set (R87). -/
def MapEntry.withRef (e : MapEntry) : MapEntry := { e with byte7 := e.byte7 ||| 1#8 }
/-- Byte 7 with Ref and Err set (R89, R90). -/
def MapEntry.withErr (e : MapEntry) : MapEntry := { e with byte7 := e.byte7 ||| 3#8 }

/-- The address of the entry of a channel, modulo 2^32 (R77). -/
def ChannelMap.entryAddr (m : ChannelMap) (c : Channel) : Word := m.base + BitVec.ofNat 32 (8 * c.toNat)

/-! ## Codes -/

/-- Completion codes (R135). -/
def Code.code : Code → Byte
  | .ok => 0
  | .noReply => 1
  | .refused => 2
  | .fullLimit => 3
  | .stopped => 4
  | .skipped => 5
  | .rejected => 6

/-- The codes that lead to an Err write-back (R89). -/
def Code.failure : Code → Bool
  | .noReply => true
  | .refused => true
  | .fullLimit => true
  | _ => false

/-- Attempt causes (R135). -/
def AttemptCause.code : AttemptCause → BitVec 3
  | .none => 0
  | .timeout => 1
  | .contention => 2
  | .badReply => 3
  | .linkOff => 4
  | .brk => 5
  | .synced => 6

/-- Record kinds (R134). -/
def RecordKind.code : RecordKind → BitVec 2
  | .message => 1
  | .ringStopped => 2
  | .commandDone => 3

/-- Source codes (R151). -/
def Source.code : Source → Fin 7
  | .integ => 0
  | .cq => 1
  | .rx => 2
  | .tx n => ⟨n.val + 3, by omega⟩

/-- Fault kind codes (R154). -/
def FaultKind.code : FaultKind → BitVec 4
  | .cacheParity => 1
  | .descBus => 2
  | .mapBus => 3
  | .payloadBus => 4
  | .markBus => 5
  | .recordBus => 6
  | .cqBus => 7
  | .range => 8
  | .mapInvalid => 9
  | .mapStation => 10
  | .mapDenied => 11
  | .mapLength => 12
  | .descFormat => 13

/-- The class of a kind, 0 the highest: Integrity, Bus, Map, Format (R151). -/
def FaultKind.rank : FaultKind → Nat
  | .cacheParity => 0
  | .descBus => 1
  | .mapBus => 1
  | .payloadBus => 1
  | .markBus => 1
  | .recordBus => 1
  | .cqBus => 1
  | .range => 2
  | .mapInvalid => 2
  | .mapStation => 2
  | .mapDenied => 2
  | .mapLength => 2
  | .descFormat => 3

/-- Fault phase codes (R154). -/
def FaultPhase.code : FaultPhase → BitVec 3
  | .na => 0
  | .fetch => 1
  | .translate => 2
  | .mark => 3
  | .load => 4
  | .finish => 5

/-- HALTCAUSE codes (R160). -/
def HaltCause.code : HaltCause → BitVec 3
  | .none => 0
  | .stationParity => 1
  | .listenParity => 2
  | .stagingParity => 3
  | .rxbufParity => 4
  | .commandParity => 5
  | .cacheParity => 6
  | .doubleIntegrity => 7

/-- Command error codes (R149). -/
def CmdError.code : CmdError → BitVec 3
  | .none => 0
  | .illegal => 1
  | .arg => 2
  | .role => 3
  | .state => 4
  | .overflow => 5

/-- Link state codes (R32). -/
def LinkState.code : LinkState → BitVec 3
  | .disabled => 0
  | .idle => 1
  | .guard => 2
  | .sending => 3
  | .awaiting => 4
  | .breaking => 5

/-- Exchange kind codes (R33). -/
def XKind.code : XKind → BitVec 3
  | .none => 0
  | .outbound => 1
  | .bcast => 2
  | .poll => 3
  | .dsync => 4
  | .syncAll => 5
  | .brk => 6
  | .member => 7

/-- Frame Receiver state codes (R25). -/
def FrxState.code : FrxState → BitVec 3
  | .hunt => 0
  | .header _ => 1
  | .body => 2
  | .check _ => 3
  | .pass _ => 4

/-- Ring state codes (R101). -/
def RingState.code : RingState → BitVec 2
  | .stopped => 0
  | .running => 1
  | .stopping => 2
  | .faulted => 3

/-- Presence codes (R68). -/
def Presence.code : Presence → BitVec 2
  | .unknown => 0
  | .active => 1
  | .silent => 2

/-- InSeq as STNDAT and LSNk show it (R68, R74). -/
def inSeqCode : Option Bool → BitVec 2
  | none => 0
  | some false => 1
  | some true => 2

/-! ## Completion records (R134, R135) -/

/-- Word 0 of a record (R134). -/
def Entry.word0 (e : Entry) (phase : Bool) : Word :=
  e.lastCause.code ++ BitVec.ofNat 5 e.attempts ++ e.code.code ++ BitVec.ofNat 8 e.ring.val ++ BitVec.ofBool phase ++
    0#5 ++ e.kind.code

/-- Word 1 of a record (R134). -/
def Entry.word1 (e : Entry) : Word :=
  0#5 ++ BitVec.ofBool e.bcast ++ BitVec.ofBool e.ioc ++ BitVec.ofBool e.wbFailed ++ 0#1 ++ e.station ++ 0#8 ++ e.index

/-- Word 3 of a record (R134). -/
def Entry.word3 (e : Entry) : Word := 0#22 ++ BitVec.ofNat 2 e.persona.val ++ e.fullCount

/-- An entry of a QUIET message with code OK, which needs no record (R110). -/
def Entry.silent (e : Entry) : Bool := e.quiet && e.code == .ok && e.kind == .message

end Sys2Proof.Machine
end

