-- ==== Sys2Proof/Machine/Flags.lean ====
section
/-! DEFINITION. The status the block shows: interrupt causes and the INT output, the line error counters, the sticky bits
of GSTAT, the power state's bits, and the line outputs LDE and LTX. -/

namespace Sys2Proof.Machine

/-- The bit of a cause in INTSTAT and INTEN (R141). -/
def IrqCause.mask : IrqCause → BitVec 10
  | .cq => 0x001
  | .rxd => 0x002
  | .fault => 0x004
  | .halt => 0x008
  | .cqfull => 0x010
  | .stn => 0x020
  | .anchlost => 0x040
  | .brk => 0x080
  | .cmderr => 0x100
  | .dberr => 0x200

/-- An interrupt cause is set; a bit that is already 1 stays 1 (R141). -/
def State.raise (s : State) (c : IrqCause) : State :=
  s.setGlb { s.glb with intstat := s.glb.intstat ||| c.mask }

/-- The controller is held in reset (R163). -/
def State.held (s : State) : Bool := s.glb.porHeld || s.glb.nrstHeld

/-- The controller is Halted (R161). -/
def State.halted (s : State) : Bool := s.glb.power == .halt

/-- Neither held in reset nor Halted: register writes have their effect (R162, R163). -/
def State.live (s : State) : Bool := !s.held && !s.halted

/-- Run or Doze-Pending, and not held: the engines work (R166, R167). -/
def State.awake (s : State) : Bool := !s.held && (s.glb.power == .run || s.glb.power == .dozePending)

/-- The rest of an event that a Halt entry may have cut short (R161). -/
def State.unlessHalted (s : State) (f : State → State) : State := if s.halted then s else f s

/-- The INT output (R142). -/
def State.intPin (s : State) : Bool := s.glb.intstat &&& s.glb.inten != 0 || s.halted

/-- The line error counter named `c` (R16). -/
def Counters.get (k : Counters) : Counter → BitVec 16
  | .noise => k.noise
  | .framing => k.framing
  | .check => k.check
  | .format => k.format
  | .gap => k.gap
  | .contention => k.contention
  | .stray => k.stray
  | .dup => k.dup
  | .rxdrop => k.rxdrop
  | .breaks => k.breaks
  | .timeouts => k.timeouts

/-- The counters with `c` set to `v`. -/
def Counters.put (k : Counters) (c : Counter) (v : BitVec 16) : Counters :=
  match c with
  | .noise => { k with noise := v }
  | .framing => { k with framing := v }
  | .check => { k with check := v }
  | .format => { k with format := v }
  | .gap => { k with gap := v }
  | .contention => { k with contention := v }
  | .stray => { k with stray := v }
  | .dup => { k with dup := v }
  | .rxdrop => { k with rxdrop := v }
  | .breaks => { k with breaks := v }
  | .timeouts => { k with timeouts := v }

/-- A counter event (R16): a counter that holds 65535 stays there. -/
def State.bump (s : State) (c : Counter) : State := s.setCounters (s.counters.put c (satInc (s.counters.get c)))

/-- A locked write (R176). -/
def State.lockedWrite (s : State) : State := s.setGlb { s.glb with lockWr := true }

/-- A release error (R158). -/
def State.releaseError (s : State) : State := s.setGlb { s.glb with relErr := true }

/-- LDE: the driver is enabled exactly while the transmitter sends (R1). -/
def State.lde (s : State) : Bool := s.tx.phase != .off

/-- The length of a character the transmitter sends (R3). -/
def LineTx.charBits (t : LineTx) : Nat := if t.stop2 then 12 else 11

/-- Bit `o` of a character on the line: start, data bits least significant first, tag, stop (R3). -/
def TxChar.bit (c : TxChar) (o : Nat) : Bool :=
  if o = 0 then false else if o ≤ 8 then c.byte.getLsbD (o - 1) else if o = 9 then c.tag else true

/-- LTX: high whenever the controller sends no start bit, data bit, tag bit or low bit of a break (R1, R3, R9). -/
def State.ltx (s : State) : Bool :=
  match s.tx.phase with
  | .off => true
  | .brk => decide (Config.breakLow ≤ s.tx.bits)
  | .frame =>
    match s.tx.chars[s.tx.bits / s.tx.charBits]? with
    | some c => c.bit (s.tx.bits % s.tx.charBits)
    | none => true

end Sys2Proof.Machine
end

