-- ==== Sys2Proof/Machine/Ops.lean ====
section
/-! DEFINITION. The operations every block shares: the entries of the tables, slots and rings; DMA transactions; the Fault
Unit; Halt; and the receiver's activation. -/

namespace Sys2Proof.Machine

/-! ## Entries -/

/-- Record `a` of the Station Table (R62). -/
def State.station (s : State) (a : LineAddr) : Station := s.stn.records[a.toNat]

/-- Record `a` replaced; records 0 and 127 are never changed (R62). -/
def State.setStation (s : State) (a : LineAddr) (r : Station) : State :=
  if a = 0 ∨ a = 127 then s else s.setStn { s.stn with records := s.stn.records.set a.toNat r }

/-- Listen slot `k` (R74). -/
def State.lsn (s : State) (k : Fin 4) : ListenSlot := s.listen[k]

/-- Listen slot `k` replaced. -/
def State.setLsn (s : State) (k : Fin 4) (v : ListenSlot) : State := s.setListen (s.listen.set k v)

/-- Ring `n` (R99). -/
def State.ring (s : State) (n : Fin 4) : Ring := s.rings[n]

/-- Ring `n` replaced. -/
def State.setRing (s : State) (n : Fin 4) (r : Ring) : State := s.setRings (s.rings.set n r)

/-- Ring `n` put in a state (R101). -/
def State.setRingState (s : State) (n : Fin 4) (st : RingState) : State :=
  s.setRing n { s.ring n with state := st }

/-- What staging slot `k` holds (R103). -/
def State.slot (s : State) (k : Fin 2) : Option Message := s.slots[k]

/-- Staging slot `k` replaced. -/
def State.setSlot (s : State) (k : Fin 2) (m : Option Message) : State := s.setSlots (s.slots.set k m)

/-- The four ring numbers in class order. -/
def rings4 : List (Fin 4) := [0, 1, 2, 3]

/-- The lowest-numbered slot whose message satisfies `p`. -/
def State.findSlot (s : State) (p : Message → Bool) : Option (Fin 2) :=
  if (s.slot 0).any p then some 0 else if (s.slot 1).any p then some 1 else none

/-- The slot that holds a message of ring `n`; there is at most one (R103). -/
def State.ringSlot (s : State) (n : Fin 4) : Option (Fin 2) := s.findSlot (·.ring == n)

/-- The message is in FETCH, TRANSLATE, MARK or LOAD (R103). -/
def SlotPhase.staging : SlotPhase → Bool
  | .fetch => true
  | .translate => true
  | .mark => true
  | .load => true
  | _ => false

/-- The message has its outcome (R109). -/
def SlotPhase.isFinishing : SlotPhase → Bool
  | .finishing _ => true
  | _ => false

/-- The slot of the staging in progress (R103). -/
def State.stagingSlot (s : State) : Option (Fin 2) := s.findSlot (·.phase.staging)

/-- A slot is occupied (R103, R167). -/
def State.anySlot (s : State) : Bool := (s.slot 0).isSome || (s.slot 1).isSome

/-! ## Listen slots (R75) -/

/-- A usable slot (R75). -/
def ListenSlot.usable (l : ListenSlot) : Bool := l.enabled && l.address != 0 && l.address != 127

/-- The slot that owns a line address: the lowest-numbered usable slot that holds it (R75). -/
def State.owner (s : State) (a : LineAddr) : Option (Fin 4) :=
  rings4.find? fun k => (s.lsn k).usable && (s.lsn k).address == a

/-- The sequence state of a slot reset (R56, R59, R74). -/
def ListenSlot.synced (l : ListenSlot) : ListenSlot :=
  { l with outSeq := false, inSeq := none, resyncWanted := false }

/-- Every Enabled slot's sequence state reset (R56, R59). -/
def State.syncSlots (s : State) : State := s.setListen (s.listen.map fun l => if l.enabled then l.synced else l)

/-- Some listen slot's parity is unsound. A SYNC to 127 and a break-sync read all four slots, those that are not Enabled too:
the model's choice (log 10). -/
def State.listenUnsound (s : State) : Bool := rings4.any fun k => !(s.lsn k).sound

/-! ## Interrupting notices of the Station Table (R63 to R67) -/

/-- The bit of an address in the presence-change set (R67). -/
def addrBit (a : LineAddr) : BitVec 128 := 1#128 <<< a.toNat

/-- Presence takes a value; a change is notified (R67). -/
def State.setPresence (s : State) (a : LineAddr) (p : Presence) : State :=
  if (s.station a).presence = p ∨ a = 0 ∨ a = 127 then s
  else
    let s1 := s.setStation a { s.station a with presence := p }
    (s1.setStn { s1.stn with changed := s1.stn.changed ||| addrBit a }).raise .stn

/-- A reply mark (R63). -/
def State.replyMark (s : State) (a : LineAddr) : State :=
  (s.setStation a { s.station a with missCount := 0 }).setPresence a .active

/-- A miss mark (R64). -/
def State.missMark (s : State) (a : LineAddr) : State :=
  let r := { s.station a with missCount := satInc (s.station a).missCount }
  if s.line.missEff ≤ r.missCount.toNat ∧ r.presence ≠ .silent then
    (s.setStation a { r with resyncNeeded := true }).setPresence a .silent
  else s.setStation a r

/-- A failure mark (R65). -/
def State.failureMark (s : State) (a : LineAddr) : State :=
  s.setStation a { s.station a with errCount := satInc (s.station a).errCount }

/-- ResyncNeeded of a station takes a value (R46, R48, R50). -/
def State.setResync (s : State) (a : LineAddr) (v : Bool) : State :=
  s.setStation a { s.station a with resyncNeeded := v }

/-- Steps 1 and 2 of R51, in one record. -/
def Station.syncedAll (r : Station) : Station :=
  { r with
    outSeq := false, inSeq := none,
    resyncNeeded := if r.presence = .active then false else r.resyncNeeded }

/-- Steps 1 and 2 of R51, in every record 1..126. -/
def State.syncAllStations (s : State) : State :=
  s.setStn { s.stn with
    records := ((s.stn.records.map Station.syncedAll).set 0 s.stn.records[0]).set 127 s.stn.records[127] }

/-- Steps 1 and 2 of R51 where the role is anchor; a member changes no record (R62, log 39). -/
def State.syncRecords (s : State) : State := if s.line.role = .anchor then s.syncAllStations else s

/-- Some station record's parity is unsound. -/
def State.stationsUnsound (s : State) : Bool := s.stn.records.toList.any fun r => !r.sound

/-! ## DMA transactions (R98, R107, R161, R164) -/

/-- The transaction a staged message has in flight. -/
def Message.dma (m : Message) : List DmaKind :=
  match m.phase with
  | .fetch => [.fetch]
  | .translate => [.walk]
  | .mark => [.mark]
  | .load => [.payload]
  | .finishing .errWrite => [.errWrite]
  | _ => []

/-- The transaction a slot has in flight. -/
def slotDma : Option Message → List DmaKind
  | some m => m.dma
  | none => []

/-- The transaction a drain has in flight. -/
def Drain.dma (d : Drain) : List DmaKind :=
  match d.step with
  | .desc => [.rxDesc]
  | .payload _ _ _ => [.rxPayload]
  | .word2 _ => [.word2]
  | .word3 _ => [.word3]

/-- Transactions are issued only once those that a reset left have completed (R164, log 8). -/
def State.dmaOpen (s : State) : Bool := s.bus.afterReset.isEmpty

/-- The transactions now in flight for a unit. In Halt they already stand in `bus` (R161). -/
def State.inFlight (s : State) : List DmaKind :=
  if s.halted || !s.dmaOpen then []
  else
    slotDma (s.slot 0) ++ slotDma (s.slot 1) ++ (s.rxp.drain.map Drain.dma).getD [] ++
      (if s.cq.inFlight.isSome then [.record] else [])

/-- A transaction without an owner completes on the bus; nothing acts on it (R98, R107, R161, R164). -/
def State.orphanDone (s : State) (k : DmaKind) : State :=
  if k ∈ s.bus.afterReset then s.setBus { s.bus with afterReset := s.bus.afterReset.erase k }
  else s.setBus { s.bus with abandoned := s.bus.abandoned.erase k }

/-- The completion of a transaction of kind `k`. The unit that waits for it acts on it with `act`; where no unit waits
for one (after a reset, a ring stop or Halt entry) it is a transaction without an owner (log 7). -/
def State.dmaDone (s : State) (t : Txn) (k : DmaKind) (act : State → State) : State :=
  if t = .orphan ∨ k ∉ s.inFlight then s.orphanDone k
  else if s.awake then act s
  else s

/-- Where acting on a completion has led to Halt, the transaction that completed is not left among those in flight (R161,
R164, log 32). -/
def State.finished (s : State) (k : DmaKind) : State :=
  if s.halted then s.setBus { s.bus with abandoned := s.bus.abandoned.erase k } else s

/-! ## The Fault Unit (R152, R153) -/

/-- A fault of the source is outstanding (R152). -/
def FaultUnit.outstanding (f : FaultUnit) (src : Source) : Bool :=
  f.record.any (·.source == src) || f.waiting[src.code].isSome

/-- One comparison of R153: the earlier source keeps its place unless the later one's class is higher. -/
def FaultUnit.better (f : FaultUnit) (acc : Option (Fin 7 × FaultRecord)) (i : Fin 7) : Option (Fin 7 × FaultRecord) :=
  match f.waiting[i], acc with
  | none, _ => acc
  | some r, none => some (i, r)
  | some r, some (j, q) => if r.kind.rank < q.kind.rank then some (i, r) else some (j, q)

/-- The pending fault of the highest priority (R153). -/
def FaultUnit.best (f : FaultUnit) : Option (Fin 7 × FaultRecord) :=
  ([0, 1, 2, 3, 4, 5, 6] : List (Fin 7)).foldl f.better none

/-- Presentation (R153): the best pending fault enters an empty Fault Record and INTSTAT.FAULT is set. -/
def State.present (s : State) : State :=
  match s.flt.record, s.flt.best with
  | none, some (i, r) =>
    (s.setFlt { record := some r, waiting := s.flt.waiting.set i none }).raise .fault
  | _, _ => s

/-- A fault is posted, and presentation runs (R152, R153). -/
def State.post (s : State) (r : FaultRecord) : State :=
  (s.setFlt { s.flt with waiting := s.flt.waiting.set r.source.code (some r) }).present

/-! ## Halt (R160, R161) -/

/-- Halt entry (R161): the line is released, transactions in flight lose their owners, the receiver becomes inactive and
FRX enters Hunt (R5), the wake detector stops (R170), and the power state, HALTCAUSE and INTSTAT.HALT say so. Everything else
freezes as it is. -/
def State.enterHalt (s : State) (c : HaltCause) : State :=
  if s.halted then s
  else
    ({ s with
        bus := { s.bus with abandoned := s.bus.abandoned ++ s.inFlight }
        tx := {}
        rx := {}
        frx := { s.frx with state := .hunt }
        wakeDet := .armed
        glb := { s.glb with power := .halt, haltCause := c } } : State).raise .halt

/-- The work `f`, unless a parity check finds an error first: then the controller halts and the work does not take place
(R159, R160). -/
def State.checked (s : State) (bad : Option HaltCause) (f : State → State) : State :=
  match bad with
  | some c => s.enterHalt c
  | none => f s

/-- A parity check with one cause. -/
def unsound (bad : Bool) (c : HaltCause) : Option HaltCause := if bad then some c else none

/-- The contents of staging slot `k` are unsound (R159). -/
def State.slotUnsound (s : State) (k : Fin 2) : Bool := (s.slot k).any (!·.sound)

/-! ## Receiver activation (R5) -/

/-- The receiver when it becomes active: it waits for a falling edge, the detector is Armed, and the line counts as not
idle until the first sample that reads 1 (R5). -/
def LineRx.activated : LineRx := { active := true, awaitHigh := true }

/-- The condition of R5. -/
def State.rxWanted (s : State) : Bool := s.awake && (s.link.en || s.tx.phase != .off)

/-- The receiver becomes active or inactive as R5 says. Becoming inactive discards the character and the frame in
progress without a count or a notice, and stops the gap timer and the break detector's run. -/
def State.syncRx (s : State) : State :=
  if s.rxWanted = s.rx.active then s
  else if s.rxWanted then s.setRx LineRx.activated
  else (s.setRx {}).setFrx { s.frx with state := .hunt }

/-- The receiver becomes inactive whatever its condition says (R61). -/
def State.dropRx (s : State) : State := (s.setRx {}).setFrx { s.frx with state := .hunt }

end Sys2Proof.Machine
end

