-- ==== Sys2Proof/Machine/Holding.lean ====
section
/-! DEFINITION. The holding list and what leaving it sets in motion: record writes, the release of what waits for an entry,
blocking episodes, moderation, and the end of a command (R109, R110, R116, R136 to R140, R147). -/

namespace Sys2Proof.Machine

/-- An entry joins the tail of the holding list (R136). -/
def State.join (s : State) (e : Entry) : State := s.setCq { s.cq with holding := s.cq.holding ++ [e] }

/-- The queue is full (R132). -/
def Completion.full (c : Completion) : Bool := (c.tail.toNat + 1) % sizeOf2 c.size == c.head.toNat

/-- The entry of a staged message that has its outcome (R109, R135). -/
def Message.entry (m : Message) (k : Fin 2) : Entry where
  kind := .message
  waiter := .slot k
  ring := m.ring
  code := m.code
  attempts := m.attempts
  lastCause := m.lastCause
  index := m.index
  station := (m.snap.map (·.e.station)).getD 0
  wbFailed := m.wbFailed
  ioc := m.ioc
  bcast := m.snap.any (·.bcast)
  cookie := m.cookie
  fullCount := m.fullCount
  persona := (m.snap.map (·.persona)).getD 0
  chan := (m.snap.map (·.chan)).getD 0
  quiet := m.quiet

/-- The RING_STOPPED notice of ring `n` (R114, R135). -/
def State.noticeEntry (s : State) (n : Fin 4) : Entry where
  kind := .ringStopped
  waiter := .notice
  ring := n
  index := (s.ring n).cons

/-- The SKIPPED entry of a staging fault (R135, R156). -/
def skippedEntry (n : Fin 4) (f : FaultRecord) : Entry where
  kind := .message
  waiter := .skipped true
  ring := n
  code := .skipped
  index := f.index
  ioc := f.ioc
  cookie := f.cookie
  chan := f.chan

/-- The COMMAND_DONE entry of a command (R135, R147, R148). -/
def Cmd.doneEntry (c : Cmd) (code : Code) : Entry where
  kind := .commandDone
  waiter := .command
  code := code
  index := c.tag

/-- A SKIPPED entry of ring `n` (R136). -/
def Entry.isSkippedOf (e : Entry) (n : Fin 4) : Bool :=
  e.ring == n && (match e.waiter with | .skipped _ => true | _ => false)

/-- A RING_STOPPED notice of ring `n` (R136). -/
def Entry.isNoticeOf (e : Entry) (n : Fin 4) : Bool := e.ring == n && e.waiter == .notice

/-- A SKIPPED entry of ring `n` is in the holding list (R114, R136). -/
def State.skippedHeld (s : State) (n : Fin 4) : Bool := s.cq.holding.any (·.isSkippedOf n)

/-- A RING_STOPPED notice of ring `n` is in the holding list (R136). -/
def State.noticeHeld (s : State) (n : Fin 4) : Bool := s.cq.holding.any (·.isNoticeOf n)

/-- Ring `n` reaches Stopped and its notice joins the holding list (R115, R116). -/
def State.stopRing (s : State) (n : Fin 4) : State :=
  let s1 := s.setRingState n .stopped
  s1.join (s1.noticeEntry n)

/-- A Stopping ring that holds no message and no SKIPPED entry any more is Stopped (R116). -/
def State.stopIfFree (s : State) (n : Fin 4) : State :=
  if (s.ring n).state = .stopping ∧ s.ringSlot n = none ∧ s.skippedHeld n = false then s.stopRing n else s

/-- TXCONSn advances by one (R100). -/
def State.advanceCons (s : State) (n : Fin 4) : State :=
  s.setRing n { s.ring n with cons := nextIndex (s.ring n).cons (s.ring n).size }

/-- The head command leaves the queue (R147). -/
def State.popCommand (s : State) : State :=
  s.setCmd { s.cmd with queue := s.cmd.queue.tail, head := .fresh }

/-- The op of FENCE (R144). -/
def opFence : BitVec 4 := 3

/-- The head command ends with a code: a COMMAND_DONE joins when NOTIFY is set or it is a FENCE, otherwise the command
leaves at once (R147, R148). -/
def State.endCommand (s : State) (code : Code) : State :=
  match s.cmd.queue with
  | [] => s
  | c :: _ =>
    if c.notify || c.op == opFence then
      let s1 := s.join (c.doneEntry code)
      s1.setCmd { s1.cmd with head := .reporting }
    else s.popCommand

/-- What waits for an entry that has left the list is released (R109 steps 4 and 5, R137 step 3, R172). -/
def State.release (s : State) (e : Entry) : State :=
  match e.waiter with
  | .slot k => ((s.advanceCons e.ring).setSlot k none).stopIfFree e.ring
  | .skipped advances => (if advances then s.advanceCons e.ring else s).stopIfFree e.ring
  | .notice => s
  | .command => s.popCommand

/-- QUIET OK entries at the head leave without a record (R110, R137). -/
def State.settleQuiet : Nat → State → State
  | 0, s => s
  | n + 1, s =>
    match s.cq.holding with
    | [] => s
    | e :: rest => if e.silent then State.settleQuiet n ((s.setCq { s.cq with holding := rest }).release e) else s

/-- Conditions 1, 4 and 5 of R137: no write in flight, no CQ fault outstanding, Run or Doze-Pending. -/
def State.writerReady (s : State) : Bool :=
  s.cq.inFlight.isNone && !s.flt.outstanding .cq && s.awake

/-- The head of the holding list needs a record (R137, R138). -/
def State.headNeedsRecord (s : State) : Bool :=
  match s.cq.holding with
  | e :: _ => !e.silent
  | [] => false

/-- A blocking episode begins when the head entry meets a full queue (R138). -/
def State.noteBlocking (s : State) : State :=
  if s.headNeedsRecord && s.cq.full && s.writerReady && !s.cq.blocking then
    (s.setCq { s.cq with blocking := true }).raise .cqfull
  else s

/-- The record write of R137: position, phase and words of the head entry. -/
def State.recordIssue (s : State) : State :=
  match s.cq.holding with
  | [] => s
  | e :: _ =>
    if !e.silent && !s.cq.full && s.writerReady && s.dmaOpen then
      s.setCq { s.cq with
        inFlight := some
          { addr := itemAddr s.cq.base s.cq.tail, w0 := e.word0 s.cq.phase, w1 := e.word1, w2 := e.cookie,
            w3 := e.word3 } }
    else s

/-- Moderation after a written record (R140). -/
def State.moderate (s : State) (ioc : Bool) : State :=
  let n := satInc s.cq.unsignalled
  if ioc || s.cq.countEff ≤ n.toNat then
    (s.setCq { s.cq with unsignalled := 0, timer := none }).raise .cq
  else if n = 1 ∧ s.cq.delay ≠ 0 then s.setCq { s.cq with unsignalled := n, timer := some 0 }
  else s.setCq { s.cq with unsignalled := n }

/-- Step 1 of R137: CQTAIL advances, and the phase flips at the wrap. -/
def Completion.advanced (c : Completion) : Completion :=
  let t := nextIndex c.tail c.size
  { c with tail := t, phase := if t = 0 then !c.phase else c.phase }

/-- A record write that completed without error (R137 steps 1 to 5). -/
def State.recordWritten (s : State) : State :=
  match s.cq.holding with
  | [] => s.setCq { s.cq with inFlight := none }
  | e :: rest =>
    let s1 := (s.setCq { s.cq.advanced with inFlight := none, holding := rest }).release e
    let s2 := s1.moderate e.ioc
    s2.setCq { s2.cq with blocking := false }

/-- A record write that completed with a bus error (R139). -/
def State.recordFailed (s : State) : State :=
  match s.cq.holding with
  | [] => s.setCq { s.cq with inFlight := none }
  | e :: _ =>
    (s.setCq { s.cq with inFlight := none }).post
      { source := .cq, kind := .cqBus, phase := .na, index := e.index, chan := e.chan,
        addr := itemAddr s.cq.base s.cq.tail }

/-- A SKIP release of a CQ fault discards the head entry (R138, R139). -/
def State.discardHead (s : State) : State :=
  match s.cq.holding with
  | [] => s
  | e :: rest => (s.setCq { s.cq with holding := rest, blocking := false }).release e

/-- The moderation delay expires (R140). -/
def State.moderationExpire (s : State) : State :=
  (s.setCq { s.cq with unsignalled := 0, timer := none }).raise .cq

end Sys2Proof.Machine
end

