-- ==== Sys2Proof/Machine/Finish.lean ====
section
/-! DEFINITION. The Channel Cache and the finishing of a message: removal, recency, parity, the Err write-back and the join
of the holding list (R80 to R83, R89, R90, R92 to R94, R107, R109, R111). -/

namespace Sys2Proof.Machine

/-! ## The Channel Cache -/

/-- The cached entry of a channel, matched by channel number alone (R81). -/
def ChannelMap.find (m : ChannelMap) (c : Channel) : Option CacheEntry := m.cache.find? (·.chan == c)

/-- The cache without a channel's entry; the order of the others is kept (R93). Where a disturbance has made a second entry
show the channel, both go (log 28). -/
def ChannelMap.remove (m : ChannelMap) (c : Channel) : ChannelMap :=
  { m with cache := m.cache.filter (·.chan != c) }

/-- An entry at the head of the recency list: a hit moves it there, an install places it there and evicts the seventeenth
(R81, R83). Where a disturbance has made another entry show the channel, that one is dropped (log 28). -/
def ChannelMap.toHead (m : ChannelMap) (e : CacheEntry) : ChannelMap :=
  { m with cache := (e :: m.cache.filter (·.chan != e.chan)).take Config.cacheEntries }

/-- A cached entry's fields changed in place; the recency list does not move (R83, R87, R90). An entry that a disturbance has
struck is left as it is, whatever channel it shows (R92, log 28). -/
def ChannelMap.update (m : ChannelMap) (c : Channel) (f : MapEntry → MapEntry) : ChannelMap :=
  { m with cache := m.cache.map fun x => if x.chan = c ∧ x.sound = true then { x with e := f x.e } else x }

/-- A cache entry is found with unsound parity (R92, R159): Halt with GCTL.ICHK = 0 or with an INTEG fault outstanding,
otherwise the entry is removed and an INTEG fault is posted. Every entry that shows the channel goes with it (log 28). At a
Halt, DOUBLE_INTEGRITY too, the entry stays in the frozen cache: the model's choice (log 45). -/
def State.cacheParity (s : State) (phase : FaultPhase) (index : Byte) (c : Channel) : State :=
  if !s.glb.ichk then s.enterHalt .cacheParity
  else if s.flt.outstanding .integ then s.enterHalt .doubleIntegrity
  else
    (s.setMap (s.map.remove c)).post
      { source := .integ, kind := .cacheParity, phase := phase, index := index, chan := c, addr := 0 }

/-- The cache update at the end of FINISH (R90). -/
def State.cacheErr (s : State) (index : Byte) (c : Channel) : State :=
  match s.map.find c with
  | none => s
  | some e =>
    if e.sound then s.setMap (s.map.update c MapEntry.withErr) else s.cacheParity .finish index c

/-! ## Finishing -/

/-- A message's entry joins the holding list (R109 step 2). -/
def State.joinMessage (s : State) (k : Fin 2) (m : Message) : State :=
  (s.setSlot k (some { m with phase := .finishing .held })).join (m.entry k)

/-- The FINISH phase ends without a fault: the cache update, then the join (R90, R109). -/
def State.finishDone (s : State) (k : Fin 2) (m : Message) : State :=
  (s.cacheErr m.index ((m.snap.map (·.chan)).getD 0)).unlessHalted fun s1 => s1.joinMessage k m

/-- The address of the Err write, which a FINISH fault shows in FLTADDR: that of byte 7 itself, the snapshot's entry address
plus 7, which is the model's choice (R79, R89, log 46). -/
def Message.errAddr (m : Message) : Word := ((m.snap.map (·.addr)).getD 0) + 7

/-- A staged message gets its outcome and its finishing begins (R109 step 1, R89): a failure code writes Err back when the
snapshot's Err is 0; OK and STOPPED join at once. With Err 1 the cache update follows at once (R90), and where it halts the
controller the message has neither its outcome nor its place in finishing: the model's choice (log 43). -/
def State.giveOutcome (s : State) (k : Fin 2) (c : Code) : State :=
  match s.slot k with
  | none => s
  | some m =>
    let m1 := { m with code := c }
    if c.failure then
      if m.snap.any (fun n => !n.e.err) then
        s.setSlot k (some { m1 with phase := .finishing .errWrite, txn := m1.errAddr })
      else s.finishDone k m1
    else s.joinMessage k m1

/-- The byte-7 image of a write in flight: with Ref in MARK, with Ref and Err in FINISH (R79, R87, R89). -/
def Message.writeByte (m : Message) : Option Byte :=
  match m.phase with
  | .mark => m.work.map (·.e.withRef.byte7)
  | .finishing .errWrite => m.snap.map (·.e.withErr.byte7)
  | _ => none

/-- A message is removed from its slot without a record (R107). A transaction in flight loses its owner, a walk is given
up, and TXCONSn stays. -/
def State.abandonSlot (s : State) (k : Fin 2) : State :=
  match s.slot k with
  | none => s
  | some m =>
    let s1 := if s.dmaOpen then s.setBus { s.bus with abandoned := s.bus.abandoned ++ m.dma } else s
    let s2 := if m.phase = .translate then s1.setMap { s1.map with walk := none } else s1
    s2.setSlot k none

/-- An attempt that ended without a final outcome: in a Stopping ring the message is given STOPPED (R116). -/
def State.settleStopping (s : State) (k : Fin 2) : State :=
  match s.slot k with
  | none => s
  | some m =>
    if (s.ring m.ring).state = .stopping ∧ m.phase = .ready then s.giveOutcome k .stopped else s

/-- A decision cancelled in Guard: in a Stopping ring a message that was never attempted is unstaged, and one that was is
given STOPPED, its contents read for finishing (R116, R159). -/
def State.settleCancelled (s : State) (k : Fin 2) : State :=
  match s.slot k with
  | none => s
  | some m =>
    if (s.ring m.ring).state = .stopping ∧ m.phase = .ready then
      if m.attempted then s.checked (unsound (!m.sound) .stagingParity) fun s => s.giveOutcome k .stopped
      else (s.abandonSlot k).stopIfFree m.ring
    else s

end Sys2Proof.Machine
end

