-- ==== Sys2Proof/Machine/Exchange.lean ====
section
/-! DEFINITION. The Link Engine's exchanges: how they begin and end, the reply window, the anchor's classing of replies, the
member's dispatch, and what breaks and link disabling do to them (R32 to R61). -/

namespace Sys2Proof.Machine

/-! ## Link states (R32, R60, R61) -/

/-- The anchor-lost timer restarts from 0, in member role (R60). In anchor role nothing restarts, so a Disabled-to-Idle
transition leaves LINKSTAT.ANCHLOST as it is, hidden until the role is member again: the model's choice (log 41). -/
def State.restartAnchor (s : State) : State :=
  if s.line.role = .member then
    s.setLink { s.link with anchCount := 0, anchRunning := true, anchLost := false }
  else s

/-- Disabled to Idle (R32). -/
def State.enableLink (s : State) : State :=
  let s1 := s.setLink { s.link with state := .idle, outbound := if s.line.role = .anchor then 0 else s.link.outbound }
  s1.restartAnchor.syncRx

/-- Entry to Disabled with the effects R61 lists. The receiver stays active while the transmitter still finishes a
character (R5, log 33). -/
def State.enterDisabled (s : State) : State :=
  let s1 := s.setLink
    { s.link with state := .disabled, x := {}, outbound := 0, pause := none, offPending := false }
  if s1.tx.phase = .off then s1.dropRx else s1

/-- The link returns to Idle, or enters Disabled where EN is 0 or an earlier write of 0 is still to be settled; after a
later write of 1 it goes on to Idle at the same event (R32, R61). -/
def State.toIdle (s : State) : State :=
  if s.link.en && !s.link.offPending then s.setLink { s.link with state := .idle, x := {} }
  else
    let s1 := s.enterDisabled
    if s1.link.en then s1.enableLink else s1

/-- The link is to be Disabled at the end of the transmission (R61). -/
def Link.off (l : Link) : Bool := l.offPending || !l.en

/-- The decision or pending reply in Guard is cancelled (R36, R116). The link leaves Guard before the staging slot is read, so
it stays Idle or Disabled where that read halts the controller: the model's choice (log 43). -/
def State.cancelGuard (s : State) : State :=
  match s.link.x.slot with
  | none => s.toIdle
  | some k => s.toIdle.settleCancelled k

/-! ## Parity of what an exchange reads (R159, log 10) -/

/-- The first parity error among what the Link Engine reads for the current exchange: the station record, which a member does
not consult (R62), the listen slot, the staging slot. -/
def State.exchangeUnsound (s : State) : Option HaltCause :=
  let x := s.link.x
  let station := s.line.role = .anchor ∧ (x.kind = .outbound ∨ x.kind = .poll ∨ x.kind = .dsync)
  if station ∧ !(s.station x.station).sound then some .stationParity
  else if x.kind = .member ∧ !(s.lsn x.lslot).sound then some .listenParity
  else if x.slot.any s.slotUnsound then some .stagingParity
  else none

/-! ## The end of an attempt or poll (R44 to R50, R57, R58) -/

/-- RetryLimit of the snapshot (R46). -/
def Message.retryLimit (m : Message) : Nat := ((m.snap.map (·.e.retry.toNat)).getD 0)

/-- FullLimit of the snapshot (R45). -/
def Message.fullLimit (m : Message) : Byte := ((m.snap.map (·.e.fullLimit)).getD 0)

/-- A failed attempt now would be the message's last (R46, R50). -/
def Message.lastAttempt (m : Message) (silent : Bool) : Bool := m.attempts + 1 == m.retryLimit + 1 || silent

/-- A failure of the attempt in slot `k` completes the message NO_REPLY (R46, R47, R58). -/
def State.failsFinally (s : State) (k : Option (Fin 2)) (silent : Bool) : Bool :=
  match k with
  | none => false
  | some j => (s.slot j).any (·.lastAttempt silent)

/-- The message's part of a failed attempt (R46, R47, R57, R58). -/
def State.failMessage (s : State) (k : Fin 2) (c : AttemptCause) (silent : Bool) : State :=
  match s.slot k with
  | none => s
  | some m =>
    let s1 := s.setSlot k (some { m with attempts := m.attempts + 1, lastCause := c })
    if m.lastAttempt silent then s1.giveOutcome k .noReply else s1.settleStopping k

/-- What a failed attempt or poll does to the station's record in anchor role: the marks of R44 and, where it completes its
message NO_REPLY (`final`), ResyncNeeded (R46, R50). A member changes no record (R62, log 39). -/
def State.failStation (s : State) (a : LineAddr) (c : AttemptCause) (final : Bool) : State :=
  if s.line.role = .anchor then
    let s1 := s.failureMark a
    let s2 := if c = .timeout then s1.missMark a else s1
    if final then s2.setResync a true else s2
  else s

/-- The current attempt or poll fails with a cause (R46, R47, R48, R50, R57, R58). Where the Err update at the outcome finds
unsound cache parity and halts, the marks and Attempts stand and the link has not left its state: the model's choice
(log 43). -/
def State.failExchange (s : State) (c : AttemptCause) : State :=
  s.checked s.exchangeUnsound fun s =>
    let s := s.setLink { s.link with x := { s.link.x with cause := c } }
    let x := s.link.x
    let s1 :=
      match x.kind, x.slot with
      | .outbound, some k =>
        (s.failStation x.station c (s.failsFinally (some k) x.beganSilent)).failMessage k c x.beganSilent
      | .dsync, some k =>
        (s.failStation x.station c (s.failsFinally (some k) x.beganSilent)).failMessage k c x.beganSilent
      | .dsync, none => s.failStation x.station c false
      | .poll, _ => s.failStation x.station c false
      | .bcast, some k => s.failMessage k c false
      | .member, some k =>
        let s2 :=
          if s.failsFinally (some k) false then s.setLsn x.lslot { s.lsn x.lslot with resyncWanted := true } else s
        s2.failMessage k c false
      | _, _ => s
    s1.unlessHalted State.toIdle

/-- An attempt that an acknowledgement or a final NAK ended (R45, R47, R57). -/
def State.endMessage (s : State) (k : Fin 2) (c : Code) : State :=
  match s.slot k with
  | none => s
  | some m => (s.setSlot k (some { m with attempts := m.attempts + 1 })).giveOutcome k c

/-- A NAK(FULL) to a message's DATA (R45, R57): the test is made on FullCount before the increment. -/
def State.nakFull (s : State) (k : Fin 2) : State :=
  match s.slot k with
  | none => s
  | some m =>
    let s1 := s.setSlot k (some { m with fullCount := satInc m.fullCount })
    if m.fullLimit ≠ 0 ∧ m.fullCount = m.fullLimit then s1.giveOutcome k .fullLimit else s1.settleStopping k

/-! ## The reply window (R37) -/

/-- A reply is awaited (not the settling of a broadcast). -/
def State.awaitingReply (s : State) : Bool := s.link.state == .awaiting && s.link.x.kind != .bcast

/-- The reply window expires (R37). TIMEOUTS is counted before the records are read, so also where that read halts the
controller: the model's choice (log 10). -/
def State.windowExpires (s : State) : State := (s.bump .timeouts).failExchange .timeout

/-- The window is resumed (R37). A deadline that passed meanwhile expires it at once, although a character whose start bit fell
before the deadline may be the one that led here: the model's choice (log 42). -/
def State.resumeWindow (s : State) : State :=
  let s1 := s.setLink { s.link with x := { s.link.x with met := false } }
  if s.link.x.passed then s1.windowExpires else s1

/-- The reply deadline passes (R37): the window expires unless it is met or a character whose start bit fell in time is
still coming. A falling edge not judged yet counts as such a character, although it may prove a false start: the model's
choice (log 44). -/
def State.deadlinePasses (s : State) : State :=
  if s.awaitingReply then
    let s1 := s.setLink { s.link with x := { s.link.x with passed := true } }
    if s.link.x.met || (s.rx.inChar && s.link.x.inTime) then s1 else s1.windowExpires
  else s

/-- At the event that ends a character: a deadline that passed during it, with the window still unmet, expires it (R37). That
event is the judging of the character or of the false start, not the end of the stop bit: the model's choice (log 44). -/
def State.windowAfterChar (s : State) : State :=
  if s.awaitingReply && s.link.x.passed && !s.link.x.met && !s.rx.inChar then s.windowExpires else s

/-- A head notice (R31): it cancels a member's pending reply (R36), or it meets an open window (R37). -/
def State.headNotice (s : State) (addressed : Bool) : State :=
  if s.link.state = .guard ∧ s.link.x.kind = .member then s.cancelGuard
  else if s.awaitingReply && (s.link.x.kind != .member || addressed) && s.link.x.inTime then
    s.setLink { s.link with x := { s.link.x with met := true } }
  else s

/-- A discard notice (R31): it resumes a window that was met (R37, R44, R57). -/
def State.discardNotice (s : State) : State :=
  if s.awaitingReply && s.link.x.met then s.resumeWindow else s

/-! ## Inbound DATA (R39, R40) -/

/-- The four cases of R39. -/
inductive Inbound where
  | refused | duplicate | full | accepted
  deriving DecidableEq, Repr

/-- The inbound decision (R39): the first case that applies. -/
def State.inbound (s : State) (accept : Bool) (inSeq : Option Bool) (b : Bool) : Inbound :=
  if !s.rxp.en || !accept then .refused
  else if inSeq = some b then .duplicate
  else if Config.rxBuffers ≤ s.rxp.buffers.length then .full
  else .accepted

/-- The reply of a case (R39). -/
def Inbound.reply (i : Inbound) (b : Bool) : OutFrame :=
  match i with
  | .refused => { kind := .nak, detail := detailRefused }
  | .duplicate => { kind := .ack, seq := b }
  | .full => { kind := .nak, detail := detailFull }
  | .accepted => { kind := .ack, seq := b }

/-- A frame joins the tail of the buffer list (R122). -/
def State.stageRx (s : State) (f : RxFrame) : State := s.setRxp { s.rxp with buffers := s.rxp.buffers ++ [f] }

/-- The changes an inbound decision makes besides InSeq (R39). -/
def State.applyInbound (s : State) (i : Inbound) (f : RxFrame) : State :=
  match i with
  | .duplicate => s.bump .dup
  | .accepted => s.stageRx f
  | _ => s

/-- A broadcast DATA at a member (R40). -/
def State.broadcastData (s : State) (f : Frame) : State :=
  if s.rxp.en && decide (s.rxp.buffers.length < Config.rxBuffers) then
    s.stageRx { peer := 0, port := f.port, payload := f.payload, persona := 0, bcast := true }
  else s.bump .rxdrop

/-! ## The anchor's replies (R44, R45, R48, R49, R50) -/

/-- The frames an exchange accepts as its reply (R34). -/
def Exchange.accepts (x : Exchange) (f : Frame) : Bool :=
  match x.kind with
  | .outbound => (f.kind == .ack && f.seq == x.seq) || f.kind == .nak
  | .member => (f.kind == .ack && f.seq == x.seq) || f.kind == .nak
  | .dsync => f.kind == .ack && !f.seq
  | .poll => f.kind == .data || f.kind == .none
  | _ => false

/-- A message's reply from the other end: ACK, NAK(REFUSED) or NAK(FULL) (R45, R57). -/
def State.messageReply (s : State) (k : Fin 2) (f : Frame) : State :=
  if f.kind = .ack then s.endMessage k .ok
  else if f.detail = detailRefused then s.endMessage k .refused
  else s.nakFull k

/-- The reply to an outbound attempt (R45). Where the Err update at the outcome halts, the reply mark and Attempts or FullCount
stand and the link is still Awaiting: the model's choice (log 43). -/
def State.outboundReply (s : State) (f : Frame) : State :=
  let a := s.link.x.station
  let s1 := if f.kind = .ack then s.setStation a { s.station a with outSeq := !(s.station a).outSeq } else s
  let s2 := s1.replyMark a
  let s3 := match s.link.x.slot with
    | some k => s2.messageReply k f
    | none => s2
  s3.unlessHalted State.toIdle

/-- ACK(0) to a directed sync (R50); a message it was sent for stays staged, or is given STOPPED (R116). -/
def State.dsyncAck (s : State) : State :=
  let a := s.link.x.station
  let s1 := s.setStation a { s.station a with outSeq := false, inSeq := none, resyncNeeded := false }
  let s2 := s1.replyMark a
  let s3 := match s.link.x.slot with
    | some k => s2.settleStopping k
    | none => s2
  s3.unlessHalted State.toIdle

/-- The reply to a poll (R48); after DATA the poll goes on with the anchor's own reply (R49). -/
def State.pollReply (s : State) (f : Frame) : State :=
  let a := s.link.x.station
  let s1 := s.replyMark a
  if f.kind = .data then
    let i := s.inbound (s.station a).accept (s.station a).inSeq f.seq
    let s2 := s1.applyInbound i { peer := a, port := f.port, payload := f.payload, persona := 0, bcast := false }
    let s3 := if i = .accepted then s2.setStation a { s2.station a with inSeq := some f.seq } else s2
    s3.setLink { s3.link with
      state := .guard,
      x := { s3.link.x with tail := true, out := i.reply f.seq, passed := false, met := false, waited := 0 } }
  else
    (if f.detail = detailResync then s1.setResync a true else s1).toIdle

/-- The accepted reply of the anchor's current exchange (R45, R48, R50). -/
def State.anchorReply (s : State) (f : Frame) : State :=
  match s.link.x.kind with
  | .outbound => s.outboundReply f
  | .dsync => s.dsyncAck
  | .poll => s.pollReply f
  | _ => s

/-- A valid frame at the anchor (R44, R53). The STRAY of a frame from another source, or of no open window, is counted with no
read; that of a bad reply comes after the read, and so not where the read halts the controller: the model's choice (log 10). -/
def State.anchorFrame (s : State) (f : Frame) : State :=
  if s.awaitingReply && s.link.x.met then
    if f.src ≠ s.link.x.station ∨ f.kind = .poll ∨ f.kind = .sync then (s.bump .stray).resumeWindow
    else
      s.checked s.exchangeUnsound fun s =>
        if s.link.x.accepts f then s.anchorReply f else (s.bump .stray).failExchange .badReply
  else s.bump .stray

/-! ## Eligibility (R42) -/

/-- Two staged messages go to the same station, or in member role belong to the same persona; broadcasts never lock and
are never locked (R42). -/
def samePeer (role : Role) (m n : Message) : Bool :=
  match m.snap, n.snap with
  | some a, some b =>
    !a.bcast && !b.bcast && (if role = .anchor then a.e.station == b.e.station else a.persona == b.persona)
  | _, _ => false

/-- The other slot. -/
def otherSlot (k : Fin 2) : Fin 2 := if k = 0 then 1 else 0

/-- Conditions 1 and 2 of R42 for the message in slot `k`. -/
def State.candidate (s : State) (k : Fin 2) : Bool :=
  (s.slot k).any fun m => m.phase == .ready && s.link.x.slot != some k && (s.ring m.ring).state == .running

/-- The message holds the Link Engine's items, the attempted mark among them: from Ready on (R103). -/
def SlotPhase.holdsMark (p : SlotPhase) : Bool := p == .ready || p.isFinishing

/-- The message in slot `k` is eligible (R42). -/
def State.eligible (s : State) (k : Fin 2) : Bool :=
  match s.slot k with
  | none => false
  | some m =>
    s.candidate k &&
      !(s.slot (otherSlot k)).any fun n => n.phase.holdsMark && n.attempted && samePeer s.line.role m n

/-- Slot `j` comes before slot `k` among eligible messages: the lower class (R41, R55). -/
def State.lowerClass (s : State) (j k : Fin 2) : Bool :=
  match s.slot j, s.slot k with
  | some m, some n => m.ring.val < n.ring.val
  | _, _ => false

/-- The slot chosen among those that satisfy `p`: the one of the lowest class (R41, R55). -/
def State.pickSlot (s : State) (p : Fin 2 → Bool) : Option (Fin 2) :=
  if p 0 && p 1 then (if s.lowerClass 1 0 then some 1 else some 0)
  else if p 0 then some 0
  else if p 1 then some 1
  else none

/-- Condition 3 of R42 for slot `k` reads the other slot: a broadcast is never locked (R42). -/
def State.testsLock (s : State) (k : Fin 2) : Bool :=
  s.candidate k && (s.slot k).any fun m => !m.snap.any (·.bcast)

/-- A choice among the staged messages reads the contents of slot `k`: as a Ready message's, or for the attempted mark that
could lock the other slot's (R42, R159, log 10). -/
def State.readForChoice (s : State) (k : Fin 2) : Bool :=
  (s.slot k).any fun m => m.phase == .ready || (m.phase.isFinishing && s.testsLock (otherSlot k))

/-- What a choice among the staged messages reads is unsound (R159). -/
def State.readyUnsound (s : State) : Bool :=
  (s.readForChoice 0 && s.slotUnsound 0) || (s.readForChoice 1 && s.slotUnsound 1)

/-! ## The member (R54 to R58) -/

/-- A member reply exchange from persona `k` begins (R54). -/
def State.memberReply (s : State) (k : Fin 4) (slot : Option (Fin 2)) (out : OutFrame) : State :=
  if s.link.state = .idle then
    s.setLink { s.link with
      state := .guard,
      x := { kind := .member, station := (s.lsn k).address, lslot := k, slot := slot, out := out } }
  else s

/-- The message in slot `j` can answer a POLL for persona `k` (R42, R55). -/
def State.answers (s : State) (k : Fin 4) (j : Fin 2) : Bool :=
  s.eligible j && (s.slot j).any fun m => m.snap.any fun n => n.persona == k

/-- The slot that answers a POLL for persona `k`: the attempted message if there is one, otherwise the lowest class (R55). -/
def State.pollPick (s : State) (k : Fin 4) : Option (Fin 2) :=
  match s.pickSlot fun j => s.answers k j && (s.slot j).any (·.attempted) with
  | some j => some j
  | none => s.pickSlot (s.answers k)

/-- A POLL for persona `k` (R55). -/
def State.pollAnswer (s : State) (k : Fin 4) : State :=
  if (s.lsn k).resyncWanted then s.memberReply k none { kind := .none, detail := detailResync }
  else
    s.checked (unsound s.readyUnsound .stagingParity) fun s =>
      match s.pollPick k with
      | some j => s.memberReply k (some j) { kind := .data, seq := (s.lsn k).outSeq }
      | none => s.memberReply k none { kind := .none }

/-- A DATA for persona `k` (R39, R54). -/
def State.memberData (s : State) (k : Fin 4) (f : Frame) : State :=
  let i := s.inbound true (s.lsn k).inSeq f.seq
  let s1 := s.applyInbound i { peer := 0, port := f.port, payload := f.payload, persona := k, bcast := false }
  let s2 := if i = .accepted then s1.setLsn k { s1.lsn k with inSeq := some f.seq } else s1
  s2.memberReply k none (i.reply f.seq)

/-- The dispatch of a valid frame addressed to persona `k`, or to 127 (R54). The STRAY of a frame to a persona comes after the
read of its slot, and so not where that read halts the controller: the model's choice (log 10). -/
def State.dispatch (s : State) (target : Option (Fin 4)) (f : Frame) : State :=
  match target with
  | some k =>
    s.checked (unsound (!(s.lsn k).sound) .listenParity) fun s =>
      match f.kind with
      | .data => s.memberData k f
      | .poll => s.pollAnswer k
      | .sync => (s.setLsn k (s.lsn k).synced).memberReply k none { kind := .ack }
      | .ack => s.bump .stray
      | .nak => s.bump .stray
      | .none => s.bump .stray
  | none =>
    match f.kind with
    | .data => s.broadcastData f
    | .sync => s.checked (unsound s.listenUnsound .listenParity) State.syncSlots
    | .poll => s.bump .stray
    | .ack => s.bump .stray
    | .nak => s.bump .stray
    | .none => s.bump .stray

/-- The reply to a member's DATA (R57). A halt at the Err update leaves the link Awaiting: the model's choice (log 43). -/
def State.memberAck (s : State) (f : Frame) : State :=
  let k := s.link.x.lslot
  let s1 := if f.kind = .ack then s.setLsn k { s.lsn k with outSeq := !(s.lsn k).outSeq } else s
  let s2 := match s.link.x.slot with
    | some j => s1.messageReply j f
    | none => s1
  s2.unlessHalted State.toIdle

/-- What a valid frame does to the attempt of a member that awaits its reply (R57). -/
def State.memberSettles (s : State) (target : Option (Fin 4)) (f : Frame) : State :=
  if target = some s.link.x.lslot ∧ s.link.x.accepts f then s.checked s.exchangeUnsound fun s => s.memberAck f
  else s.failExchange (if f.kind = .sync then .synced else .timeout)

/-- A valid frame at a member (R54, R57, R60): in Awaiting it ends the attempt first, and every frame is then dispatched
(log 12). The anchor-lost timer has restarted before anything is read, so also where a read then halts the controller: the
model's choice (log 43). -/
def State.memberFrame (s : State) (f : Frame) : State :=
  let target := if f.dest = 127 then none else s.owner f.dest
  if f.dest ≠ 127 ∧ target = none then s
  else
    let s := s.restartAnchor
    if s.link.state = .awaiting then (s.memberSettles target f).unlessHalted fun s => s.dispatch target f
    else s.dispatch target f

/-- A valid frame reaches the Link Engine (R31). -/
def State.validFrame (s : State) (f : Frame) : State :=
  match s.line.role with
  | .anchor => s.anchorFrame f
  | .member => s.memberFrame f

/-! ## The ends of transmissions (R47, R49, R51, R52, R61) -/

/-- The head command, if it is the line command `op` that waits there, ends (R51, R52, R147). -/
def State.endLineCommand (s : State) (op : BitVec 4) : State :=
  match s.cmd.queue with
  | c :: _ => if c.op = op ∧ s.cmd.head = .waiting then s.endCommand .ok else s
  | [] => s

/-- The op of LINE BREAK (R144). -/
def opLineBreak : BitVec 4 := 4
/-- The op of SYNC ALL (R144). -/
def opSyncAll : BitVec 4 := 5

/-- The end of a sync-all's transmission (R51, R62). -/
def State.endSyncAll (s : State) : State :=
  s.checked (unsound (s.line.role == .anchor && s.stationsUnsound) .stationParity) fun s =>
    (s.syncRecords.endLineCommand opSyncAll).toIdle

/-- The exchange's transmission is a frame that is an attempt or a poll, so that its failure counts (R46 to R50, R57); an
anchor's reply to a polled DATA and a member's ACK, NAK or NONE are not. -/
def Exchange.isAttempt (x : Exchange) : Bool :=
  match x.kind with
  | .outbound => true
  | .bcast => true
  | .dsync => true
  | .poll => !x.tail
  | .member => x.out.kind == .data
  | _ => false

/-- The Link Engine at frame sent (R32, R37, R47, R49, R51, R54, R61). -/
def State.linkFrameSent (s : State) : State :=
  if s.link.x.kind = .syncAll then s.endSyncAll
  else if s.link.x.isAttempt then
    if s.link.off then s.failExchange .linkOff
    else s.setLink { s.link with
      state := .awaiting, x := { s.link.x with waited := 0, passed := false, met := false, inTime := false } }
  else s.toIdle

/-- A transmission that ends early: an attempt fails with the cause, a sync-all completes, any other reply just ends (R46,
R49, R51, R53, R54, R57, R59). -/
def State.linkCutShort (s : State) (c : AttemptCause) : State :=
  if s.link.x.kind = .syncAll then s.endSyncAll
  else if s.link.x.isAttempt then s.failExchange c
  else s.toIdle

/-- The end of a sent break (R52, R62). -/
def State.linkBreakSent (s : State) : State :=
  s.checked (unsound (s.line.role == .anchor && s.line.brkSync && s.stationsUnsound) .stationParity) fun s =>
    ((if s.line.brkSync then s.syncRecords else s).endLineCommand opLineBreak).toIdle

/-- A broadcast has settled (R47). -/
def State.linkSettled (s : State) : State :=
  s.checked s.exchangeUnsound fun s =>
    (match s.link.x.slot with
      | some k => s.endMessage k .ok
      | none => s).unlessHalted State.toIdle

/-- A detected break at the Link Engine (R36, R53, R59). -/
def State.linkBreak (s : State) : State :=
  let s1 :=
    match s.link.state with
    | .guard => s.cancelGuard
    | .sending => s.linkCutShort .brk
    | .awaiting => s.failExchange .brk
    | .disabled => s
    | .idle => s
    | .breaking => s
  s1.unlessHalted fun s =>
    if s.line.role = .member ∧ s.line.brkSync then
      s.checked (unsound s.listenUnsound .listenParity) fun s =>
        s.syncSlots.setFrx { s.syncSlots.frx with state := .hunt }
    else s

/-- A write of 0 to LINKCTL.EN, already stored, at the Link Engine (R61). -/
def State.linkOff (s : State) : State :=
  match s.link.state with
  | .disabled => s
  | .idle => s.toIdle
  | .guard => s.cancelGuard
  | .sending => s.setLink { s.link with offPending := true }
  | .awaiting => s.failExchange .linkOff
  | .breaking => s.setLink { s.link with offPending := true }

end Sys2Proof.Machine
end

