-- ==== Sys2Proof/Machine/CommandOps.lean ====
section
/-! DEFINITION. The Command Queue: entry, the checks at the head, each command's effect, rejection, and the end of an event
at which the holding list and the queue settle (R69, R93 to R96, R113 to R116, R144 to R148). -/

namespace Sys2Proof.Machine

/-- The ops of R144 besides FENCE, LINE BREAK and SYNC ALL. -/
def opNop : BitVec 4 := 0
/-- INVALIDATE CHANNEL. -/
def opInvalidateChannel : BitVec 4 := 1
/-- INVALIDATE ALL. -/
def opInvalidateAll : BitVec 4 := 2
/-- STATION RESET. -/
def opStationReset : BitVec 4 := 6
/-- RING START. -/
def opRingStart : BitVec 4 := 7
/-- RING STOP. -/
def opRingStop : BitVec 4 := 8

/-- The commands that only the anchor role may execute (R146). -/
def anchorOnly (op : BitVec 4) : Bool := op == opLineBreak || op == opSyncAll || op == opStationReset

/-- The argument check of R146. -/
def badArgument (c : Cmd) : Bool :=
  if c.op = opInvalidateChannel then 4096 ≤ c.arg.toNat
  else if c.op = opStationReset then c.arg == 0 || decide (127 ≤ c.arg.toNat)
  else if c.op = opRingStart ∨ c.op = opRingStop then 4 ≤ c.arg.toNat
  else false

/-- The checks at the head, in the order of R146. -/
def State.headCheck (s : State) (c : Cmd) : CmdError :=
  if 9 ≤ c.op.toNat then .illegal
  else if anchorOnly c.op && s.line.role == .member then .role
  else if badArgument c then .arg
  else .none

/-- The record of an error in CMDSTAT and INTSTAT (R145, R148, R149). -/
def State.commandError (s : State) (e : CmdError) (tag : Byte) : State :=
  (s.setCmd { s.cmd with err := true, errCode := e, errTag := tag }).raise .cmderr

/-- The head command is rejected (R148). -/
def State.rejectHead (s : State) (c : Cmd) (e : CmdError) : State := (s.commandError e c.tag).endCommand .rejected

/-- INVALIDATE CHANNEL (R93). -/
def State.invalidate (s : State) (c : Channel) : State :=
  s.setMap { s.map.remove c with
    walk := s.map.walk.map fun w => if w.chan = c then { w with permission := false } else w }

/-- INVALIDATE ALL (R94). -/
def State.invalidateAll (s : State) : State :=
  s.setMap { s.map with cache := [], walk := s.map.walk.map fun w => { w with permission := false } }

/-- Every occupied slot joins the fence set (R95). -/
def State.recordFence (s : State) : State :=
  s.setSlots (s.slots.map fun o => o.map fun m => { m with fenced := true })

/-- The fence set is empty (R96). -/
def State.fenceEmpty (s : State) : Bool := !(s.slot 0).any (·.fenced) && !(s.slot 1).any (·.fenced)

/-- An exchange with station `a` is in progress (R69). -/
def State.exchangeWith (s : State) (a : LineAddr) : Bool :=
  (s.link.state == .guard || s.link.state == .sending || s.link.state == .awaiting) && s.link.x.station == a &&
    (s.link.x.kind == .outbound || s.link.x.kind == .poll || s.link.x.kind == .dsync)

/-- STATION RESET's change to a record (R69). -/
def State.resetStation (s : State) (a : LineAddr) : State :=
  (s.setStation a
    { s.station a with outSeq := false, inSeq := none, missCount := 0, resyncNeeded := true }).setPresence a .unknown

/-- The ring a RING START or RING STOP names (R146). -/
def Cmd.ring (c : Cmd) : Fin 4 := ⟨c.arg.toNat % 4, Nat.mod_lt _ (by omega)⟩

/-- The station a STATION RESET names (R146). -/
def Cmd.station (c : Cmd) : LineAddr := c.arg.extractLsb' 0 7

/-- RING START waits while an entry of its ring has to leave the holding list first (R136, R172; log 26). -/
def State.startWaits (s : State) (n : Fin 4) : Bool :=
  s.noticeHeld n || ((s.ring n).state == .stopped && s.skippedHeld n)

/-- RING START acting (R113). -/
def State.ringStartActs (s : State) (c : Cmd) : State :=
  match (s.ring c.ring).state with
  | .stopped => (s.setRingState c.ring .running).endCommand .ok
  | .running => s.endCommand .ok
  | .stopping => s.rejectHead c .state
  | .faulted => s.rejectHead c .state

/-- The head command's progress. -/
def State.setHead (s : State) (h : HeadProgress) : State := s.setCmd { s.cmd with head := h }

/-- RING STOP acting on a Running ring (R114 to R116); a message given STOPPED is read for finishing (R159). -/
def State.stopRunning (s : State) (n : Fin 4) : State :=
  match s.ringSlot n with
  | none =>
    if s.skippedHeld n then (s.setRingState n .stopping).setHead .stopping else (s.stopRing n).endCommand .ok
  | some k =>
    match s.slot k with
    | none => s
    | some m =>
      if m.phase.staging then ((s.abandonSlot k).stopRing n).endCommand .ok
      else if m.phase.isFinishing || s.link.x.slot == some k then (s.setRingState n .stopping).setHead .stopping
      else if m.attempted then
        s.checked (unsound (!m.sound) .stagingParity) fun s =>
          ((s.setRingState n .stopping).setHead .stopping).giveOutcome k .stopped
      else ((s.abandonSlot k).stopRing n).endCommand .ok

/-- RING STOP acting (R114). -/
def State.ringStopActs (s : State) (c : Cmd) : State :=
  match (s.ring c.ring).state with
  | .stopped => s.endCommand .ok
  | .running => s.stopRunning c.ring
  | .stopping => s.rejectHead c .state
  | .faulted => s.rejectHead c .state

/-- A command that passed its checks begins to execute (R146): the ones that act at once act, FENCE records its set, the
others wait for their event. -/
def State.beginHead (s : State) (c : Cmd) : State :=
  if c.op = opNop then s.endCommand .ok
  else if c.op = opInvalidateChannel then (s.invalidate (c.arg.extractLsb' 0 12)).endCommand .ok
  else if c.op = opInvalidateAll then s.invalidateAll.endCommand .ok
  else if c.op = opFence then s.recordFence.setHead .fencing
  else s.setHead .waiting

/-- One step of the head command; none where it waits (R69, R96, R116, R136, R146, R147). -/
def State.headStep (s : State) : Option State :=
  match s.cmd.queue with
  | [] => none
  | c :: _ =>
    match s.cmd.head with
    | .fresh =>
      if !c.sound then some (s.enterHalt .commandParity)
      else if s.headCheck c = .none then some (s.beginHead c)
      else some (s.rejectHead c (s.headCheck c))
    | .waiting =>
      if c.op = opStationReset then
        if s.exchangeWith c.station then none
        else
          some (s.checked (unsound (!(s.station c.station).sound) .stationParity) fun s =>
            (s.resetStation c.station).endCommand .ok)
      else if c.op = opRingStart then (if s.startWaits c.ring then none else some (s.ringStartActs c))
      else if c.op = opRingStop then some (s.ringStopActs c)
      else none
    | .fencing => if s.fenceEmpty then some (s.endCommand .ok) else none
    | .stopping => if (s.ring c.ring).state = .stopped then some (s.endCommand .ok) else none
    | .reporting => none

/-- The queue executes until its head waits or the controller halts (R146, R147). -/
def State.pump : Nat → State → State
  | 0, s => s
  | n + 1, s =>
    if s.halted then s
    else
      match s.headStep with
      | none => s
      | some t => State.pump n t

/-- Each command takes at most three steps, so this many let a whole queue run. -/
def State.pumpFuel (s : State) : Nat := 4 * (s.cmd.queue.length + 1)

/-- The end of an event: QUIET OK entries at the head leave (R110), the command queue executes (R146), and a blocking
episode begins if the head entry now meets a full queue (R138). -/
def State.settle (s : State) : State :=
  if s.halted then s
  else
    let s1 := State.settleQuiet s.cq.holding.length s
    let s2 := State.pump s1.pumpFuel s1
    if s2.halted then s2 else s2.noteBlocking

/-- A write to CMD (R144, R145): the command joins the tail, or the word is dropped. -/
def State.enqueue (s : State) (c : Cmd) : State :=
  if s.cmd.queue.length < Config.commandDepth then s.setCmd { s.cmd with queue := s.cmd.queue ++ [c] }
  else s.commandError .overflow c.tag

/-- A waiting LINE BREAK, SYNC ALL or STATION RESET is rejected when the role becomes member (R146). One whose break or
SYNC is already on the line waits no longer (log 27). -/
def State.roleRejects (s : State) : State :=
  match s.cmd.queue with
  | [] => s
  | c :: _ =>
    let onLine :=
      (s.link.state == .breaking || s.link.state == .sending) &&
        (s.link.x.kind == .brk || s.link.x.kind == .syncAll)
    if s.line.role = .member ∧ s.cmd.head = .waiting ∧ anchorOnly c.op ∧ !onLine then s.rejectHead c .role else s

end Sys2Proof.Machine
end

