-- ==== Sys2Proof/Machine/Frx.lean ====
section
/-! DEFINITION. The Frame Receiver: header, body, check, Pass, and the ways a frame ends early (R23, R25 to R31). -/

namespace Sys2Proof.Machine

/-- Header, Body or Check: a frame whose loss gives a discard notice (R31). -/
def FrxState.collecting : FrxState → Bool
  | .header _ => true
  | .body => true
  | .check _ => true
  | _ => false

/-- FRX enters Hunt and the gap timer stops (R14, R25). -/
def State.frxHunt (s : State) : State :=
  (s.setFrx { s.frx with state := .hunt }).setRx { s.rx with gap := none }

/-- The frame in progress is abandoned: Hunt, and a discard notice unless it was in Pass (R26, R31). -/
def State.frxDrop (s : State) : State :=
  if s.frx.state.collecting then s.frxHunt.discardNotice else s.frxHunt

/-- The frame in progress is truncated: GAP counts for a counted frame, then it is abandoned (R14, R28, R29). -/
def State.frxTruncate (s : State) : State :=
  (if s.frx.counted && s.frx.state.collecting then s.bump .gap else s).frxDrop

/-- A format violation in a frame in Header (R23). -/
def State.formatViolation (s : State) : State := (if s.frx.counted then s.bump .format else s).frxDrop

/-- A frame to this destination is addressed to this controller (R31). -/
def State.addressed (s : State) (dest : LineAddr) : Bool :=
  match s.line.role with
  | .anchor => dest == 0
  | .member => dest == 127 || (s.owner dest).isSome

/-- A frame to this destination is a counted frame (R17). -/
def State.countedDest (s : State) (dest : LineAddr) : Bool := s.line.role == .anchor || s.addressed dest

/-- FRX at a Head character (R25): a counted frame is received in Header, any other is followed in Pass. -/
def State.frxBegin (s : State) (dest : LineAddr) : State :=
  if s.countedDest dest then s.setFrx { state := .header .source, counted := true, dest := dest }
  else s.setFrx { s.frx with state := .pass .source, counted := false, dest := dest }

/-- A Head character (R25, R28): the head notice, then the next state, and the format check of bit 7 (R23). Where the notice
cancels a member's pending reply and finds its staging slot unsound, the controller halts and FORMAT is not counted: the
model's choice (log 10). -/
def State.headChar (s : State) (b : Byte) : State :=
  let dest : LineAddr := b.extractLsb' 0 7
  (s.headNotice (s.addressed dest)).unlessHalted fun s1 =>
    let s2 := s1.frxBegin dest
    if b.msb then
      (match s2.frx.state with
      | .header _ => s2.formatViolation
      | _ => s2.frxHunt)
    else s2

/-- A character of the header (R23, R26). -/
def State.frxHeader (s : State) (f : HeaderField) (b : Byte) : State :=
  let r := { s.frx with crc := crcByte s.frx.crc b }
  match f with
  | .source =>
    if b.msb then s.formatViolation
    else s.setFrx { r with src := b.extractLsb' 0 7, state := .header .control }
  | .control =>
    match Kind.ofCode (b.extractLsb' 0 4) with
    | none => s.formatViolation
    | some k =>
      let d : BitVec 3 := b.extractLsb' 5 3
      if !k.permits d || (k.seqFixed && b.getLsbD 4) then s.formatViolation
      else
        s.setFrx { r with
          kind := k, seq := b.getLsbD 4, detail := d,
          state := if k = .data then .header .port else .check none }
  | .port =>
    if b.extractLsb' 4 4 ≠ 0 then s.formatViolation
    else s.setFrx { r with port := b.extractLsb' 0 4, state := .header .length }
  | .length =>
    if Config.payloadMax < b.toNat then s.formatViolation
    else s.setFrx { r with length := b, state := if b = 0 then .check none else .body }

/-- A payload character (R26). -/
def State.frxBody (s : State) (b : Byte) : State :=
  let p := s.frx.payload ++ [b]
  s.setFrx { s.frx with
    payload := p, crc := crcByte s.frx.crc b,
    state := if s.frx.length.toNat ≤ p.length then .check none else .body }

/-- The source of a frame is valid for the role (R30). -/
def State.sourceValid (s : State) (src : LineAddr) : Bool :=
  match s.line.role with
  | .anchor => src != 0 && src != 127
  | .member => src == 0

/-- The frame as it is delivered (R31). -/
def Frx.frame (r : Frx) : Frame where
  dest := r.dest
  src := r.src
  kind := r.kind
  seq := r.seq
  detail := r.detail
  port := r.port
  payload := r.payload

/-- Validation at the second Check character (R30). -/
def State.frxValidate (s : State) (received : BitVec 16) : State :=
  let r := s.frx
  if r.crc ≠ received then (s.bump .check).frxDrop
  else if s.line.role = .anchor ∧ r.dest ≠ 0 then (s.bump .stray).frxDrop
  else if !s.sourceValid r.src then (s.bump .stray).frxDrop
  else s.frxHunt.validFrame r.frame

/-- A Check character (R26). -/
def State.frxCheck (s : State) (hi : Option Byte) (b : Byte) : State :=
  match hi with
  | none => s.setFrx { s.frx with state := .check (some b) }
  | some h => s.frxValidate (h ++ b)

/-- A character of a frame in Pass (R27). -/
def State.frxPass (s : State) (p : PassField) (b : Byte) : State :=
  match p with
  | .source => s.setFrx { s.frx with state := .pass .control }
  | .control =>
    match Kind.ofCode (b.extractLsb' 0 4) with
    | none => s.frxHunt
    | some .data => s.setFrx { s.frx with state := .pass .port }
    | some _ => s.setFrx { s.frx with state := .pass (.skip 2) }
  | .port => s.setFrx { s.frx with state := .pass .length }
  | .length =>
    if Config.payloadMax < b.toNat then s.frxHunt
    else s.setFrx { s.frx with state := .pass (.skip (b.toNat + 2)) }
  | .skip n => if n ≤ 1 then s.frxHunt else s.setFrx { s.frx with state := .pass (.skip (n - 1)) }

/-- A good character reaches FRX (R25 to R28). A Head character out of place in a met window ends the old frame before its own
head notice comes, and a window whose deadline has passed expires at that end: the model's choice (log 42). -/
def State.frxChar (s : State) (b : Byte) (tag : Bool) : State :=
  if tag then
    (if s.frx.state = .hunt then s else s.frxTruncate).unlessHalted fun s1 => s1.headChar b
  else
    match s.frx.state with
    | .hunt => s
    | .header f => s.frxHeader f b
    | .body => s.frxBody b
    | .check hi => s.frxCheck hi b
    | .pass p => s.frxPass p b

end Sys2Proof.Machine
end

