-- ==== Sys2Proof/Machine/LineOps.lean ====
section
/-! DEFINITION. The Line Interface: falling edges, judged characters, false starts, the idle reference point, the gap limit,
the break detector, and the transmitter's start and end (R1, R4 to R15). -/

namespace Sys2Proof.Machine

/-! ## Receiving -/

/-- The end of a judged stop bit: the idle reference point is set, and inside a frame the gap timer starts (R12, R14). -/
def State.endStopBit (s : State) : State :=
  if s.rx.stopEnd then
    s.setRx { s.rx with
      stopEnd := false, idle := some 0, gap := if s.frx.state = .hunt then none else some 0 }
  else s

/-- The break detector at a falling edge (R10). -/
def BreakDet.edge : BreakDet → BreakDet
  | .armed => .counting 0
  | d => d

/-- A high period ends a run (R10). -/
def BreakDet.runEnd : BreakDet → BreakDet
  | .counting _ => .armed
  | d => d

/-- One more low period: the run holds 0..14 (R10). -/
def BreakDet.low : BreakDet → BreakDet
  | .counting n => .counting (min Config.breakRun (n + 1))
  | d => d

/-- The start bit of the character now beginning fell before the deadline, if that lies ahead (R37). -/
def State.noteStart (s : State) : State :=
  if s.awaitingReply then s.setLink { s.link with x := { s.link.x with inTime := !s.link.x.passed } } else s

/-- A falling edge at an active receiver (R6, R10, R12). While a character is in progress, or while the controller sends a
frame, only the break detector watches for it; during the controller's own break nothing does (R9, R15). -/
def State.fallingEdge (s : State) : State :=
  if !s.rx.active || s.tx.phase == .brk then s
  else if s.tx.phase == .frame || s.rx.inChar then s.setRx { s.rx with brk := s.rx.brk.edge }
  else
    let s1 := s.endStopBit
    (s1.setRx { s1.rx with idle := none, inChar := true, awaitHigh := false, brk := s1.rx.brk.edge }).noteStart

/-- The falling edge that began the character now reported, where no row reported it before (log 19). -/
def State.impliedEdge (s : State) : State := if s.rx.inChar then s else s.fallingEdge

/-- A false start (R7): the first high sample has set the idle reference point, and a gap limit that passed meanwhile
truncates the frame (R14). An edge that no row reported begins no run, for the line is high again (log 18). -/
def State.falseStart (s : State) : State :=
  let s1 := s.impliedEdge
  let s2 := s1.setRx { s1.rx with inChar := false, idle := some (s1.rx.idle.getD 0), brk := s.rx.brk }
  let s3 := if s2.rx.gap = some Config.gapLimit ∧ s2.frx.state ≠ .hunt then s2.frxTruncate else s2
  s3.unlessHalted State.windowAfterChar

/-- A character whose first stop bit reads 0 (R8). -/
def State.framingError (s : State) : State :=
  ((s.bump .framing).setRx { s.rx with inChar := false, gap := none, idle := none, awaitHigh := true }).frxDrop

/-- The receiver at the judging of a good character: its stop bit has still to end, and being high it has ended any run of
the break detector (R6, R10, R12, R14, log 18). -/
def LineRx.judged (r : LineRx) : LineRx :=
  { r with inChar := false, gap := none, idle := none, stopEnd := true, brk := r.brk.runEnd }

/-- A good character (R6): it is delivered at the judging event. -/
def State.goodChar (s : State) (c : RxChar) : State :=
  let s1 := if c.noisy then s.bump .noise else s
  (s1.setRx s1.rx.judged).frxChar c.data c.tag

/-- A character judged while the controller sends nothing (R6 to R8). -/
def State.judgeChar (s : State) (c : RxChar) : State :=
  if c.start then s.falseStart
  else
    (if c.stop then s.impliedEdge.goodChar c else s.impliedEdge.framingError).unlessHalted State.windowAfterChar

/-- The echo of a character the controller sends (R15). -/
def State.echoChar (s : State) (c : RxChar) : State :=
  let ok := (s.tx.chars[s.tx.echoed]?).all fun t => t.echoSound c
  let s1 := s.setTx { s.tx with echoed := s.tx.echoed + 1, contention := s.tx.contention || !ok }
  s1.setRx { s1.rx with idle := none, stopEnd := true, brk := if c.stop then s1.rx.brk.runEnd else s1.rx.brk }

/-- The receiver judges a character (R6, R9, R15). -/
def State.charReceived (s : State) (c : RxChar) : State :=
  if !s.rx.active then s
  else
    match s.tx.phase with
    | .off => s.judgeChar c
    | .frame => s.echoChar c
    | .brk => s

/-- The row FALSE_START (R7). -/
def State.falseStartSeen (s : State) : State :=
  if s.rx.active && s.tx.phase == .off then s.falseStart else s

/-- The gap timer reaches its limit with no falling edge pending (R14). -/
def State.gapExpires (s : State) : State :=
  let s1 := s.endStopBit
  if s1.rx.active && s1.rx.gap.isSome && !s1.rx.inChar && s1.frx.state != .hunt then s1.frxTruncate else s

/-- The idle reference point is set: at the end of a stop bit, or at the first high sample after activation, a framing
error or a falling edge that proves a false start (R12). -/
def State.idlePoint (s : State) : State :=
  if !s.rx.active then s
  else if s.rx.stopEnd then s.endStopBit
  else if s.rx.awaitHigh || s.rx.inChar then s.setRx { s.rx with awaitHigh := false, idle := some 0 }
  else s

/-! ## The break detector (R10, R11) -/

/-- The detector works: the receiver is active and no break of the controller's own suppresses it (R9). -/
def State.detecting (s : State) : Bool := s.rx.active && s.tx.phase != .brk

/-- A break-sync of a member discards the frame in progress without a discard notice; any other detected break gives one
(R11, R25, R31, R59). -/
def State.breakDrop (s : State) : State := if s.line.role = .member ∧ s.line.brkSync then s.frxHunt else s.frxDrop

/-- The effects of a detected break, in the order of R11 (log 14). -/
def State.breakFound (s : State) : State :=
  let s1 := (s.bump .breaks).raise .brk
  let s2 := (s1.setRx { s1.rx with brk := .rearming }).breakDrop
  let s3 := if s2.tx.phase = .frame then s2.setTx { s2.tx with afterBreak := true } else s2
  s3.unlessHalted State.linkBreak

/-- The bit time that ends now makes the run 14 (R10): the event comes in Counting alone (log 18). -/
def BreakDet.reached (d : BreakDet) : Bool := d.low == .counting Config.breakRun

/-- The detector's run reaches 14 (R10, R11). -/
def State.breakDetected (s : State) : State :=
  if s.detecting && s.rx.brk.reached then s.breakFound else s

/-- Eight high samples re-arm the detector (R10). -/
def State.breakRearm (s : State) : State :=
  if s.detecting && s.rx.brk == .rearming then s.setRx { s.rx with brk := .armed } else s

/-- A high period ends a run (R10). -/
def State.breakRunEnd (s : State) : State := if s.detecting then s.setRx { s.rx with brk := s.rx.brk.runEnd } else s

/-! ## Transmitting -/

/-- The idle time is at least the effective guard gap (R13). -/
def State.guardReached (s : State) : Bool := s.rx.idle.any (s.line.guardEff ≤ ·)

/-- A transmission can start: decided, nothing being sent, no falling edge pending, and the idle time at least the guard gap
(R12, R13, log 20). -/
def State.canTransmit (s : State) : Bool :=
  s.link.state == .guard && s.tx.phase == .off && s.rx.active && !s.rx.inChar && s.guardReached

/-- The sequence bit of the frame to send: a DATA takes OutSeq as it stands now, a broadcast carries 0 (R38, R47). -/
def State.seqToSend (s : State) : Bool :=
  let x := s.link.x
  if x.out.kind = .data then
    match x.kind with
    | .outbound => (s.station x.station).outSeq
    | .member => (s.lsn x.lslot).outSeq
    | _ => false
  else x.out.seq

/-- The destination of the frame to send (R24). -/
def Exchange.dest (x : Exchange) : LineAddr := if x.kind = .member then 0 else x.station

/-- The source of the frame to send (R24, R75). -/
def State.sourceToSend (s : State) : LineAddr :=
  if s.link.x.kind = .member then (s.lsn s.link.x.lslot).address else 0

/-- The staged message the exchange serves. -/
def State.servedMessage (s : State) : Option Message := s.link.x.slot.bind s.slot

/-- The characters of the frame to send (R18, R24). -/
def State.charsToSend (s : State) : List TxChar :=
  let x := s.link.x
  let m := s.servedMessage
  frameChars x.dest s.sourceToSend x.out.kind s.seqToSend x.out.detail
    ((m.bind fun m => m.snap.map (·.e.port)).getD 0) ((m.map (·.payload)).getD [])

/-- The message for which LDE rises is attempted from now on (R35). -/
def State.markAttempted (s : State) : State :=
  match s.link.x.slot with
  | none => s
  | some k =>
    match s.slot k with
    | none => s
    | some m => s.setSlot k (some { m with attempted := true })

/-- The receiver when LDE rises: it waits for no edge and the idle reference point is cleared (R12, R15, log 31). -/
def LineRx.sending (r : LineRx) : LineRx :=
  { r with inChar := false, stopEnd := false, awaitHigh := false, idle := none, gap := none }

/-- The station is SILENT as the attempt begins (R46). -/
def State.beginsSilent (s : State) : Bool :=
  (s.link.x.kind == .outbound || s.link.x.kind == .dsync) && (s.station s.link.x.station).presence == .silent

/-- LDE rises (R1, R9, R13, R29, R32, R35). -/
def State.transmit (s : State) : State :=
  s.checked s.exchangeUnsound fun s =>
    let s1 := if s.frx.state = .hunt then s else s.frxTruncate
    if s1.link.x.kind = .brk then
      ((s1.setTx { phase := .brk }).setRx s1.rx.sending).setLink { s1.link with state := .breaking }
    else
      let s2 := (s1.setTx { phase := .frame, chars := s1.charsToSend, stop2 := s1.line.stop2 }).setRx s1.rx.sending
      (s2.setLink { s2.link with
        state := .sending,
        x := { s2.link.x with seq := s1.seqToSend, beganSilent := s1.beginsSilent } }).markAttempted

/-- The idle time has reached the guard gap in Guard (R13); where it had done so before the decision, see log 38. -/
def State.transmissionStarts (s : State) : State := if s.canTransmit then s.transmit else s

/-- LDE falls: the transmitter is off, the receiver waits for a falling edge and the idle reference point is set (R1, R12,
R15). -/
def State.txEnd (s : State) : State :=
  (s.setTx {}).setRx { s.rx with inChar := false, stopEnd := false, awaitHigh := false, idle := some 0, gap := none }

/-- What the Link Engine does at the end of its frame, if it is still Sending, and the receiver's activation after it (R5). -/
def State.afterFrame (s : State) (f : State → State) : State :=
  (if s.link.state = .sending then f s else s).unlessHalted State.syncRx

/-- Frame stopped (R15). -/
def State.frameStops (s : State) : State :=
  if s.tx.phase = .frame ∧ s.tx.afterBreak = false then
    ((s.bump .contention).txEnd).afterFrame fun s => s.linkCutShort .contention
  else s

/-- Frame sent (R4); after contention it is frame stopped instead (R15, log 15). -/
def State.frameEnds (s : State) : State :=
  if s.tx.phase = .frame ∧ s.tx.afterBreak = false then
    (if s.tx.contention then s.frameStops else s.txEnd.afterFrame State.linkFrameSent)
  else s

/-- The end of the high tail of a sent break (R9, R52). The detector waits for high before it re-arms. -/
def State.breakEnds (s : State) : State :=
  if s.tx.phase = .brk then
    let s1 := s.txEnd
    let s2 := s1.setRx { s1.rx with brk := .rearming }
    (if s2.link.state = .breaking then s2.linkBreakSent else s2).unlessHalted State.syncRx
  else s

/-- A frame cut by a detected break is finishing its character (R11). -/
def LineTx.finishing (t : LineTx) : Bool := t.phase == .frame && t.afterBreak

/-- The end of the character during which a break was detected (R11). -/
def State.endsAfterBreak (s : State) : State := if s.tx.finishing then s.txEnd.syncRx else s

/-! ## Timers of the Link Engine -/

/-- A broadcast has settled (R47). -/
def State.broadcastSettles (s : State) : State :=
  if s.link.state = .awaiting ∧ s.link.x.kind = .bcast ∧ (s.rx.idle.isSome ∨ s.rx.stopEnd = true) ∧ s.rx.inChar = false then
    s.linkSettled
  else s

/-- A poll idle pause ends (R43). -/
def State.pauseEnds (s : State) : State := s.setLink { s.link with pause := none }

/-- The anchor-lost timer runs (R60). -/
def State.anchorWatch (s : State) : Bool :=
  s.line.role == .member && s.link.state != .disabled && s.link.anchRunning

/-- The anchor-lost timer reaches its value (R60). -/
def State.anchorLost (s : State) : State :=
  if s.anchorWatch && s.line.anchTo != 0 then
    (s.setLink { s.link with anchRunning := false, anchLost := true }).raise .anchlost
  else s

/-- The moderation delay timer reaches its value (R140). -/
def State.delayExpires (s : State) : State := if s.cq.timer.isSome then s.moderationExpire else s

end Sys2Proof.Machine
end

