-- ==== Sys2Proof/Machine/Decision.lean ====
section
/-! DEFINITION. The anchor's decision and the poll scan (R41 to R43, R72, R73). -/

namespace Sys2Proof.Machine

/-- A decision is taken: the link enters Guard for an exchange (R32, R33, R41). -/
def State.takeDecision (s : State) (x : Exchange) : State := s.setLink { s.link with state := .guard, x := x }

/-- The consecutive-outbound count takes a value (R43). -/
def State.setOutbound (s : State) (n : Nat) : State := s.setLink { s.link with outbound := n }

/-! ## Line commands (case 1) -/

/-- The op of the line command that waits at the head (R41 case 1, R146). -/
def State.lineCommand (s : State) : Option (BitVec 4) :=
  match s.cmd.queue with
  | c :: _ => if s.cmd.head = .waiting ∧ (c.op = opLineBreak ∨ c.op = opSyncAll) then some c.op else none
  | [] => none

/-- The exchange of a line command (R33, R51, R52). -/
def lineExchange (op : BitVec 4) : Exchange :=
  if op = opLineBreak then { kind := .brk } else { kind := .syncAll, station := 127, out := { kind := .sync } }

/-! ## Outbound (case 2) -/

/-- The exchange that sends the message in slot `k` with snapshot `n` (R41 case 2). -/
def State.outboundExchange (s : State) (k : Fin 2) (n : Snapshot) : Exchange :=
  if n.bcast then { kind := .bcast, station := 127, slot := some k, out := { kind := .data } }
  else if (s.station n.e.station).resyncNeeded then
    { kind := .dsync, station := n.e.station, slot := some k, out := { kind := .sync } }
  else { kind := .outbound, station := n.e.station, slot := some k, out := { kind := .data } }

/-- Case 2 of R41 for the message in slot `k`; every such decision counts (R43). -/
def State.takeOutbound (s : State) (k : Fin 2) : State :=
  match (s.slot k).bind (·.snap) with
  | none => s
  | some n =>
    s.checked (unsound (!n.bcast && !(s.station n.e.station).sound) .stationParity) fun s =>
      (s.takeDecision (s.outboundExchange k n)).setOutbound (s.link.outbound + 1)

/-! ## The poll scan (R72, R73) -/

/-- PTR advances by one; at the end of the list it goes to 0 and ROUND advances (R72). -/
def PollList.advance (p : PollList) : PollList :=
  if p.len.toNat ≤ p.ptr.toNat + 1 then { p with ptr := 0, round := p.round + 1 } else { p with ptr := p.ptr + 1 }

/-- The address of the entry at PTR (R70). -/
def PollList.current (p : PollList) : LineAddr := p.entries[p.ptr.toNat]

/-- An entry that holds an address no poll can go to (R70). -/
def invalidEntry (a : LineAddr) : Bool := a == 0 || a == 127

/-- The scan over at most `n` entries (R72). Without a result a poll idle pause begins (R73). A record read with unsound
parity halts the controller (R159); PTR and ROUND have then moved over the entries skipped before it: the model's choice
(log 43). -/
def State.scan : Nat → State → State × Option LineAddr
  | 0, s => (s.setLink { s.link with pause := some 0 }, none)
  | n + 1, s =>
    let a := s.poll.current
    let s1 := s.setPoll s.poll.advance
    if invalidEntry a then State.scan n s1
    else if !(s.station a).sound then (s.enterHalt .stationParity, none)
    else if (s.station a).presence = .silent ∧ s.poll.round ≠ 0 then State.scan n s1
    else (s1, some a)

/-- Polling is possible at all: enabled, a list, and no pause running (R41, R72). -/
def State.canScan (s : State) : Bool := s.link.pollen && s.poll.len != 0 && s.link.pause.isNone

/-- The poll scan of a decision that needs one; no scan where polling yields nothing without it (R41). -/
def State.pollScan (s : State) : State × Option LineAddr :=
  if s.canScan then State.scan s.poll.len.toNat s else (s, none)

/-- The exchange of a poll of station `a` (R41 case 3). -/
def State.pollExchange (s : State) (a : LineAddr) : Exchange :=
  if (s.station a).resyncNeeded then { kind := .dsync, station := a, out := { kind := .sync } }
  else { kind := .poll, station := a, out := { kind := .poll } }

/-- Case 3 of R41; the poll sets the consecutive-outbound count to 0 (R43). -/
def State.takePoll (s : State) (a : LineAddr) : State := (s.takeDecision (s.pollExchange a)).setOutbound 0

/-! ## The decision (R41) -/

/-- Cases 2 to 4, where an eligible message exists or not. -/
def State.chooseTraffic (s : State) : State :=
  match s.pickSlot s.eligible with
  | some k =>
    if s.link.outbound < s.line.burstEff then s.takeOutbound k
    else
      match s.pollScan with
      | (s1, some a) => s1.takePoll a
      | (s1, none) => s1.unlessHalted fun s1 => s1.takeOutbound k
  | none =>
    match s.pollScan with
    | (s1, some a) => s1.takePoll a
    | (s1, none) => s1

/-- The anchor takes decisions now (R41). -/
def State.decides (s : State) : Bool :=
  s.awake && s.line.role == .anchor && s.link.en && s.link.state == .idle

/-- The anchor's decision (R41). -/
def State.decision (s : State) : State :=
  if s.decides then
    match s.lineCommand with
    | some op => s.takeDecision (lineExchange op)
    | none => s.checked (unsound s.readyUnsound .stagingParity) State.chooseTraffic
  else s

end Sys2Proof.Machine
end

