-- ==== Sys2Proof/Machine/PowerOps.lean ====
section
/-! DEFINITION. Resets and power states (R163 to R170). -/

namespace Sys2Proof.Machine

/-! ## Resets (R163 to R165) -/

/-- Every transaction now in flight, with those that earlier resets and stops left (R164). -/
def State.busAfterReset (s : State) : Bus :=
  { afterReset := s.bus.afterReset ++ s.bus.abandoned ++ s.inFlight, abandoned := [] }

/-- The records after a soft reset: Accept is kept (R62). A record whose parity has failed keeps it too and is sound again: the
model's choice (R162, log 47). -/
def keptRecords (r : Vector Station 128) : Vector Station 128 :=
  ((r.map fun x => { accept := x.accept }).set 0 reservedRecord).set 127 reservedRecord

/-- A listen slot after a soft reset: Address and Enabled are kept (R74). A slot whose parity has failed keeps them too and is
sound again: the model's choice (R162, log 47). -/
def ListenSlot.kept (l : ListenSlot) : ListenSlot := { address := l.address, enabled := l.enabled }

/-- A ring after a soft reset (R99, R117). -/
def Ring.kept (r : Ring) : Ring := { base := r.base, size := r.size }

/-- A soft reset (R163 to R165): configuration, the counters and HALTCAUSE are kept. -/
def State.softReset (s : State) : State where
  pending := s.pending
  upsets := s.upsets
  readData := s.readData
  freeIndex := s.freeIndex
  glb :=
    { ichk := s.glb.ichk, haltCause := s.glb.haltCause, inten := s.glb.inten, porHeld := s.glb.porHeld,
      nrstHeld := s.glb.nrstHeld }
  line := s.line
  counters := s.counters
  poll := { entries := s.poll.entries, len := s.poll.len }
  stn := { records := keptRecords s.stn.records, sel := s.stn.sel }
  listen := s.listen.map ListenSlot.kept
  map := { base := s.map.base, len := s.map.len }
  rings := s.rings.map Ring.kept
  rxp := { base := s.rxp.base, size := s.rxp.size }
  cq := { base := s.cq.base, size := s.cq.size, count := s.cq.count, delay := s.cq.delay }
  bus := s.busAfterReset

/-- What a power-on and a hard reset leave besides their holds: every item at its reset value but HALTCAUSE (R165). -/
def State.fullReset (s : State) (cause : HaltCause) : State where
  pending := s.pending
  upsets := s.upsets
  readData := s.readData
  freeIndex := s.freeIndex
  glb := { haltCause := cause, porHeld := s.glb.porHeld, nrstHeld := s.glb.nrstHeld }
  bus := s.busAfterReset

/-- Power is applied (R163). -/
def State.powerOn (s : State) : State :=
  let t := s.fullReset .none
  t.setGlb { t.glb with porHeld := true }

/-- nRESET goes low (R163). -/
def State.hardReset (s : State) : State :=
  let t := s.fullReset s.glb.haltCause
  t.setGlb { t.glb with nrstHeld := true }

/-- A hold ends (R163). -/
def State.holdEnd (s : State) (src : HoldSource) : State :=
  match src with
  | .powerOn => s.setGlb { s.glb with porHeld := false }
  | .nReset => s.setGlb { s.glb with nrstHeld := false }

/-! ## Doze (R166 to R168) -/

/-- The power state. -/
def State.setPower (s : State) (p : Power) : State := s.setGlb { s.glb with power := p }

/-- The six conditions of R167, and that LDE is low, as R1 says it is throughout Doze: Doze waits for the end of a character
that a detected break has cut (R11, log 17). -/
def State.quiet (s : State) : Bool :=
  !s.anySlot && s.rxp.buffers.isEmpty && s.cq.holding.isEmpty && s.cmd.queue.isEmpty &&
    (s.link.state == .idle || s.link.state == .disabled) &&
    (s.line.role == .member || !s.link.pollen || !s.link.en) && s.tx.phase == .off

/-- Doze is entered where its conditions hold (R167, R168): the receiver becomes inactive, and the wake detector holds no run
yet (R170). -/
def State.dozeEntry (s : State) : State :=
  if !s.held && s.glb.power == .dozePending && s.quiet then ((s.setPower .doze).syncRx).setWakeDet .armed else s

/-- The steps 1 and 2 of a wake (R169): Run, the receiver, and the transition that a LINKCTL write stored in Doze calls
for (R168). The wake detector, which is Doze's alone, holds no run any more (R170). -/
def State.wake (s : State) : State :=
  let s1 := ((s.setPower .run).syncRx).setWakeDet .armed
  if s1.link.en && s1.link.state == .disabled then s1.enableLink else s1

/-- A wake source among the register writes (R169). -/
def State.wakeWrite (s : State) : State := if s.glb.power = .doze then s.wake else s

/-- A GCTL write with SRST = 0 and DOZE = 1 (R92, R166): Doze-Pending, and at once Doze where R167 allows. -/
def State.dozeRequest (s : State) (ichk : Bool) : State :=
  let s1 := s.setGlb { s.glb with ichk := ichk }
  if s1.glb.power = .run then (s1.setPower .dozePending).dozeEntry else s1

/-- A GCTL write with SRST = 0 and DOZE = 0 (R92, R166, R169). -/
def State.dozeCancel (s : State) (ichk : Bool) : State :=
  let s1 := s.wakeWrite
  let s2 := if s1.glb.power = .dozePending then s1.setPower .run else s1
  s2.setGlb { s2.glb with ichk := ichk }

/-! ## The wake detector (R170) -/

/-- The wake detector watches the line (R168, R170). -/
def State.watching (s : State) : Bool :=
  !s.held && s.glb.power == .doze && s.line.role == .member && s.link.en

/-- A character that wakes the controller (R170). -/
def State.wakesOn (s : State) (c : RxChar) : Bool :=
  !c.start && c.stop && c.tag && !c.data.msb && s.addressed (c.data.extractLsb' 0 7)

/-- A falling edge at the wake detector (R10, R170). -/
def State.wakeEdge (s : State) : State := s.setWakeDet s.wakeDet.edge

/-- A high bit time at the wake detector (R10, R170). -/
def State.wakeRunEnd (s : State) : State := s.setWakeDet s.wakeDet.runEnd

/-- A character judged by the wake detector: an addressed head character wakes the controller and its frame is lost; any other
with a sound stop bit ends a run, for that bit is high (R170, log 18). -/
def State.wakeHead (s : State) (c : RxChar) : State :=
  if s.wakesOn c then s.wake else if !c.start && c.stop then s.wakeRunEnd else s

/-- A break at the wake detector: the controller wakes and the break is processed (R170). R170 puts it after step 1 of R169;
that step 2 comes before it too is the model's choice (log 40). -/
def State.wakeBreak (s : State) : State := s.wake.breakFound

/-- The wake detector's run reaches 14 (R10, R170): only then the break wakes the controller (log 18). -/
def State.wakeBreakSeen (s : State) : State := if s.wakeDet.reached then s.wakeBreak else s

end Sys2Proof.Machine
end

