-- ==== Sys2Proof/Machine/Receive.lean ====
section
/-! DEFINITION. The Receive Path: the drain and its faults (R123 to R128). -/

namespace Sys2Proof.Machine

/-- RXCTL.STATE shows Disabled (R120). -/
def RxPath.disabled (r : RxPath) : Bool := !r.faulted && !r.en

/-- The conditions of R123 besides the power state. -/
def RxPath.canDrain (r : RxPath) : Bool :=
  r.drain.isNone && !r.buffers.isEmpty && r.en && !r.faulted && r.prod != r.cons

/-- The frame at the head of the buffer list is unsound (R159). -/
def State.rxHeadUnsound (s : State) : Bool := (s.rxp.buffers.head?).any (!·.sound)

/-- A drain begins (R123) and its descriptor read is issued (R124). -/
def State.drainStart (s : State) : State :=
  if s.awake && s.rxp.canDrain then
    s.checked (unsound s.rxHeadUnsound .rxbufParity) fun s =>
      s.setRxp { s.rxp with drain := some { addr := itemAddr s.rxp.base s.rxp.cons, step := .desc } }
  else s

/-- A receive fault (R128): the drain stops and the frame stays. -/
def State.rxFault (s : State) (kind : FaultKind) (addr : Word) : State :=
  (s.setRxp { s.rxp with drain := none, faulted := true }).post
    { source := .rx, kind := kind, phase := .na, index := s.rxp.cons, chan := 0, addr := addr }

/-- The drain goes on to a step. -/
def State.drainTo (s : State) (d : Drain) (step : DrainStep) : State :=
  s.setRxp { s.rxp with drain := some { d with step := step } }

/-- The drain and the frame it works on. -/
def State.withDrain (s : State) (f : Drain → RxFrame → State) : State :=
  match s.rxp.drain, s.rxp.buffers with
  | some d, r :: _ => f d r
  | _, _ => s

/-- A drain step that reads the frame: its parity is checked first (R159). A step that fails reads none (log 10). -/
def State.readFrame (s : State) (r : RxFrame) (f : State → State) : State :=
  s.checked (unsound (!r.sound) .rxbufParity) f

/-- The descriptor read completes (R124); a payload of length 0 goes on to word 2 at once (R125). -/
def State.rxDescDone (s : State) (r : DescRead) : State :=
  s.withDrain fun d f =>
    match d.step, r with
    | .desc, .error => s.rxFault .descBus d.addr
    | .desc, .data w0 w1 _ _ =>
      if rxCapacity w1 = 0 then s.rxFault .descFormat d.addr
      else
        s.readFrame f fun s =>
          if f.delivered (rxCapacity w1) = 0 then s.drainTo d (.word2 (rxWord2 f 0))
          else s.drainTo d (.payload w0 (rxCapacity w1) 0)
    | _, _ => s

/-- The addresses and bytes of a payload write of `count` bytes that is in flight: the next ones in ascending order (R125,
log 5). -/
def State.payloadWrite (s : State) (count : Nat) : List (Word × Byte) :=
  match s.rxp.drain, s.rxp.buffers with
  | some d, f :: _ =>
    match d.step with
    | .payload buffer capacity written => (f.unwritten buffer capacity written).take count
    | _ => []
  | _, _ => []

/-- A payload write of `count` bytes completes (R125). A count that no write in flight can have changes nothing (log 6). -/
def State.rxPayloadDone (s : State) (count : Nat) (r : WriteResult) : State :=
  s.withDrain fun d f =>
    match d.step, r with
    | .payload buffer _ written, .error => s.rxFault .payloadBus (buffer + BitVec.ofNat 32 written)
    | .payload buffer capacity written, .ok =>
      let left := (f.unwritten buffer capacity written).length
      if count = 0 ∨ left < count then s
      else
        s.readFrame f fun s =>
          if count = left then s.drainTo d (.word2 (rxWord2 f (f.delivered capacity)))
          else s.drainTo d (.payload buffer capacity (written + count))
    | _, _ => s

/-- The word-2 write completes (R126). -/
def State.word2Done (s : State) (r : WriteResult) : State :=
  s.withDrain fun d f =>
    match d.step, r with
    | .word2 _, .error => s.rxFault .recordBus (d.addr + 8)
    | .word2 _, .ok => s.readFrame f fun s => s.drainTo d (.word3 (rxWord3 f))
    | _, _ => s

/-- The end of a drain (R126): RXCONS advances, the frame leaves, RXD is set and DRAINING falls. -/
def State.drainEnds (s : State) : State :=
  (s.setRxp { s.rxp with
    cons := nextIndex s.rxp.cons s.rxp.size, buffers := s.rxp.buffers.tail, drain := none }).raise .rxd

/-- The word-3 write completes (R126). -/
def State.word3Done (s : State) (r : WriteResult) : State :=
  match s.rxp.drain with
  | some d =>
    match d.step, r with
    | .word3 _, .error => s.rxFault .recordBus (d.addr + 12)
    | .word3 _, .ok => s.drainEnds
    | _, _ => s
  | none => s

end Sys2Proof.Machine
end

