-- ==== Sys2Proof/Machine/ReleaseOps.lean ====
section
/-! DEFINITION. Releasing the presented fault (R106, R111, R129, R139, R155 to R158). -/

namespace Sys2Proof.Machine

/-- The actions of FLTREL (R155). -/
inductive Action where
  | resume | skip | hold
  deriving DecidableEq, Repr

/-- The slot that a FINISH fault of ring `n` holds (R111). -/
def State.faultedSlot (s : State) (n : Fin 4) : Option (Fin 2) :=
  s.findSlot fun m => m.ring == n && m.phase == .finishing .faulted

/-- The release of a staging fault of ring `n` (R106, R156). -/
def State.releaseStaging (s : State) (a : Action) (n : Fin 4) (f : FaultRecord) : State :=
  match a with
  | .resume => s.setRingState n .running
  | .skip => (s.setRingState n .running).join (skippedEntry n f)
  | .hold => s.stopRing n

/-- The release of a FINISH fault of ring `n` (R111, R156). -/
def State.releaseFinish (s : State) (a : Action) (n : Fin 4) : State :=
  match s.faultedSlot n with
  | none => s
  | some k =>
    match s.slot k with
    | none => s
    | some m =>
      s.checked (unsound (!m.sound) .stagingParity) fun s =>
        match a with
        | .resume =>
          (s.setRingState n (s.ring n).before).setSlot k (some { m with phase := .finishing .errWrite })
        | .skip => (s.setRingState n (s.ring n).before).joinMessage k { m with wbFailed := true }
        | .hold => (s.setRingState n .stopping).joinMessage k { m with wbFailed := true }

/-- The release of a receive fault (R129, R157). -/
def State.releaseRx (s : State) (a : Action) : State :=
  match a with
  | .resume => s.setRxp { s.rxp with faulted := false }
  | .skip => (s.setRxp { s.rxp with faulted := false, buffers := s.rxp.buffers.tail }).bump .rxdrop
  | .hold => s.setRxp { s.rxp with faulted := false, en := false }

/-- The release of a CQ fault (R139, R157). -/
def State.releaseCq (s : State) (a : Action) : State :=
  match a with
  | .skip => s.discardHead
  | .resume => s
  | .hold => s

/-- What the source of a fault does on an accepted release (R156, R157). An INTEG fault is only acknowledged. -/
def State.sourceActs (s : State) (a : Action) (f : FaultRecord) : State :=
  match f.source with
  | .integ => s
  | .cq => s.releaseCq a
  | .rx => s.releaseRx a
  | .tx n => if f.phase = .finish then s.releaseFinish a n else s.releaseStaging a n f

/-- The Fault Record is emptied and presentation runs (R155). -/
def State.nextFault (s : State) : State := (s.setFlt { s.flt with record := none }).present

/-- A release is allowed for the presented fault (R155 to R158). -/
def releaseAllowed (a : Action) (f : FaultRecord) : Bool := !(a == .hold && f.source == .cq)

/-- A write to FLTREL with an action (R155, R158). -/
def State.releaseFault (s : State) (a : Action) : State :=
  match s.flt.record with
  | none => s.releaseError
  | some f => if releaseAllowed a f then (s.sourceActs a f).unlessHalted State.nextFault else s.releaseError

end Sys2Proof.Machine
end

