-- ==== Sys2Proof/Machine/RegisterOps.lean ====
section
/-! DEFINITION. The register window: what a write to each register does, its locks, and what each register reads (chapter
13). -/

namespace Sys2Proof.Machine

/-! ## Global registers -/

/-- A write to GSTAT (R177). -/
def State.writeGstat (s : State) (v : Word) : State :=
  s.setGlb { s.glb with lockWr := s.glb.lockWr && !v.getLsbD 4, relErr := s.glb.relErr && !v.getLsbD 5 }

/-- A write to INTSTAT (R141): HALT stays set while the controller is Halted. -/
def State.writeIntstat (s : State) (v : Word) : State :=
  let ones : BitVec 10 := v.extractLsb' 0 10
  let clear := if s.halted then ones &&& ~~~IrqCause.halt.mask else ones
  s.setGlb { s.glb with intstat := s.glb.intstat &&& ~~~clear }

/-- A write to INTEN (R142). -/
def State.writeInten (s : State) (v : Word) : State := s.setGlb { s.glb with inten := v.extractLsb' 0 10 }

/-- A write to GCTL with SRST = 0 (R92, R163, R166, R169). -/
def State.writeGctl (s : State) (v : Word) : State :=
  if v.getLsbD 1 then s.dozeRequest (v.getLsbD 2) else s.dozeCancel (v.getLsbD 2)

/-- A write to CQMOD (R140). -/
def State.writeCqmod (s : State) (v : Word) : State :=
  let delay : Byte := v.extractLsb' 8 8
  s.setCq { s.cq with
    count := v.extractLsb' 0 8, delay := delay,
    timer := if delay = 0 then none else if s.cq.unsignalled ≠ 0 then some 0 else s.cq.timer }

/-! ## Line and link registers -/

/-- A write that a lock may bar (R176). -/
def State.lockable (s : State) (locked : Bool) (f : State → State) : State := if locked then s.lockedWrite else f s

/-- DIV as LDIV stores it (R2). -/
def storedDiv (v : Word) : BitVec 16 := if (v.extractLsb' 0 16).toNat < 4 then 4 else v.extractLsb' 0 16

/-- A write to LDIV (R2). -/
def State.writeLdiv (s : State) (v : Word) : State :=
  s.lockable s.link.en fun s => s.setLine { s.line with div := storedDiv v }

/-- The role bit of LCFG. -/
def roleOf (b : Bool) : Role := if b then .member else .anchor

/-- The write would change LCFG.ROLE while a staging slot is occupied, or the link is enabled (R176). -/
def State.lcfgLocked (s : State) (v : Word) : Bool :=
  s.link.en || (s.anySlot && roleOf (v.getLsbD 0) != s.line.role)

/-- A write to LCFG (R3, R52, R59, R176); a change to member role rejects a line command or STATION RESET that still waits
(R146). -/
def State.writeLcfg (s : State) (v : Word) : State :=
  s.lockable (s.lcfgLocked v) fun s =>
    let role := roleOf (v.getLsbD 0)
    let s1 := s.setLine { s.line with role := role, stop2 := v.getLsbD 1, brkSync := v.getLsbD 2 }
    if s.line.role = role then s1 else s1.roleRejects

/-- A write to LTIME (R13, R37). -/
def State.writeLtime (s : State) (v : Word) : State :=
  s.lockable s.link.en fun s =>
    s.setLine { s.line with guard := v.extractLsb' 0 8, replyWin := v.extractLsb' 16 12 }

/-- A write to LLIM (R43, R60, R64). -/
def State.writeLlim (s : State) (v : Word) : State :=
  s.lockable s.link.en fun s =>
    s.setLine { s.line with
      missLim := v.extractLsb' 0 4, burst := v.extractLsb' 8 4, anchTo := v.extractLsb' 16 8 }

/-- The POLLEN part of a LINKCTL write (R43, R71). -/
def State.writePollen (s : State) (pollen : Bool) : State :=
  if pollen = s.link.pollen then s
  else if pollen then
    (s.setPoll { s.poll with ptr := 0, round := 0 }).setLink { s.link with pollen := true }
  else s.setLink { s.link with pollen := false, pause := none }

/-- LINKCTL.EN written 1 (R32, R61, R168): only a Disabled link that does not doze goes to Idle. -/
def State.enWritten1 (s : State) : State :=
  let s1 := s.setLink { s.link with en := true }
  if s1.link.state = .disabled ∧ s1.awake = true then s1.enableLink else s1

/-- LINKCTL.EN written 0 (R61, R168); a wake detector that watched stops, and holds no run (R170, log 18). -/
def State.enWritten0 (s : State) : State :=
  if s.link.en then ((s.setLink { s.link with en := false }).setWakeDet .armed).linkOff else s

/-- A write to LINKCTL (R32, R61, R71). -/
def State.writeLinkctl (s : State) (en pollen : Bool) : State :=
  let s1 := s.writePollen pollen
  if en then s1.enWritten1 else s1.enWritten0

/-! ## Poll List, listen slots and station records -/

/-- LEN as PLCTL stores it (R70). -/
def storedLen (v : Word) : BitVec 6 := if 32 < (v.extractLsb' 0 6).toNat then 32 else v.extractLsb' 0 6

/-- A write to PLCTL (R70). -/
def State.writePlctl (s : State) (v : Word) : State :=
  s.lockable s.link.pollen fun s => s.setPoll { s.poll with len := storedLen v }

/-- A write to PLISTi (R70). -/
def State.writePlist (s : State) (i : BitVec 5) (v : Word) : State :=
  s.lockable s.link.pollen fun s =>
    s.setPoll { s.poll with entries := s.poll.entries.set i.toNat (v.extractLsb' 0 7) }

/-- A listen slot after an accepted write (R74, R159). -/
def ListenSlot.written (l : ListenSlot) (address : LineAddr) (enabled : Bool) : ListenSlot :=
  if l.address = address ∧ l.enabled = enabled then { l with sound := true }
  else { address := address, enabled := enabled }

/-- A write to LSNk (R74). -/
def State.writeLsn (s : State) (k : Fin 4) (v : Word) : State :=
  s.lockable s.link.en fun s => s.setLsn k ((s.lsn k).written (v.extractLsb' 0 7) (v.getLsbD 8))

/-- A write to STNSEL (R68). -/
def State.writeStnsel (s : State) (v : Word) : State := s.setStn { s.stn with sel := v.extractLsb' 0 7 }

/-- A write to STNDAT (R66, R68, R159). -/
def State.writeStndat (s : State) (v : Word) : State :=
  s.setStation s.stn.sel { s.station s.stn.sel with accept := v.getLsbD 2, sound := true }

/-- The bits of the presence-change set that STNCHGm shows, at their place (R67). -/
def stnchgMask (m : Fin 4) (v : Word) : BitVec 128 := v.zeroExtend 128 <<< (32 * m.val)

/-- A write to STNCHGm (R67). -/
def State.writeStnchg (s : State) (m : Fin 4) (v : Word) : State :=
  s.setStn { s.stn with changed := s.stn.changed &&& ~~~stnchgMask m v }

/-! ## Channel map, rings and queues -/

/-- MAPLEN as stored (R77). -/
def storedMapLen (v : Word) : BitVec 13 := if 4096 < (v.extractLsb' 0 13).toNat then 4096 else v.extractLsb' 0 13

/-- A write to MAPBASE (R77, R97). -/
def State.writeMapbase (s : State) (v : Word) : State := s.setMap { s.map with base := v &&& 0xFFFFFFF8#32 }

/-- A write to MAPLEN (R77, R97). -/
def State.writeMaplen (s : State) (v : Word) : State := s.setMap { s.map with len := storedMapLen v }

/-- A base address of 16-byte items as stored (R99, R118, R131). -/
def storedBase (v : Word) : Word := v &&& 0xFFFFFFF0#32

/-- Ring `n` is not Stopped (R99). -/
def State.ringLocked (s : State) (n : Fin 4) : Bool := (s.ring n).state != .stopped

/-- A write to TXBASEn (R99). -/
def State.writeTxbase (s : State) (n : Fin 4) (v : Word) : State :=
  s.lockable (s.ringLocked n) fun s => s.setRing n { s.ring n with base := storedBase v }

/-- A SKIPPED entry of ring `n` loses its advance of TXCONSn (R172). -/
def Entry.unadvanced (n : Fin 4) (e : Entry) : Entry :=
  if e.isSkippedOf n then { e with waiter := .skipped false } else e

/-- A write to TXSIZEn (R99, R172). -/
def State.writeTxsize (s : State) (n : Fin 4) (v : Word) : State :=
  s.lockable (s.ringLocked n) fun s =>
    (s.setRing n { s.ring n with size := clampRingSize v, prod := 0, cons := 0 }).setCq
      { s.cq with holding := s.cq.holding.map (Entry.unadvanced n) }

/-- A doorbell value out of range (R100, R119, R132). -/
def State.doorbellError (s : State) : State := s.raise .dberr

/-- A write to TXPRODn (R100, R169). -/
def State.writeTxprod (s : State) (n : Fin 4) (v : Word) : State :=
  let s1 := s.wakeWrite
  if v.toNat < sizeOf2 (s1.ring n).size then s1.setRing n { s1.ring n with prod := v.extractLsb' 0 8 }
  else s1.doorbellError

/-- RXBASE and RXSIZE are locked (R118). -/
def State.rxLocked (s : State) : Bool := !s.rxp.disabled || s.rxp.drain.isSome

/-- A write to RXBASE (R118). -/
def State.writeRxbase (s : State) (v : Word) : State :=
  s.lockable s.rxLocked fun s => s.setRxp { s.rxp with base := storedBase v }

/-- A write to RXSIZE (R118). -/
def State.writeRxsize (s : State) (v : Word) : State :=
  s.lockable s.rxLocked fun s => s.setRxp { s.rxp with size := clampRingSize v, prod := 0, cons := 0 }

/-- A write to RXPROD (R119, R169). -/
def State.writeRxprod (s : State) (v : Word) : State :=
  let s1 := s.wakeWrite
  if v.toNat < sizeOf2 s1.rxp.size then s1.setRxp { s1.rxp with prod := v.extractLsb' 0 8 } else s1.doorbellError

/-- A write to RXCTL (R120, R127). -/
def State.writeRxctl (s : State) (en : Bool) : State := s.setRxp { s.rxp with en := en }

/-- CQBASE and CQSIZE are locked (R131). -/
def State.cqLocked (s : State) : Bool := rings4.any s.ringLocked || !s.cq.holding.isEmpty

/-- A write to CQBASE (R131). -/
def State.writeCqbase (s : State) (v : Word) : State :=
  s.lockable s.cqLocked fun s => s.setCq { s.cq with base := storedBase v }

/-- A write to CQSIZE (R131, R133, R140). -/
def State.writeCqsize (s : State) (v : Word) : State :=
  s.lockable s.cqLocked fun s =>
    s.setCq { s.cq with
      size := clampQueueSize v, head := 0, tail := 0, phase := true, unsignalled := 0, timer := none }

/-- A write to CQHEAD (R132, R169). -/
def State.writeCqhead (s : State) (v : Word) : State :=
  let s1 := s.wakeWrite
  if v.toNat < sizeOf2 s1.cq.size then s1.setCq { s1.cq with head := v.extractLsb' 0 10 } else s1.doorbellError

/-! ## Commands and faults -/

/-- The fields of a command word (R144). -/
def cmdOfWord (v : Word) : Cmd where
  op := v.extractLsb' 0 4
  notify := v.getLsbD 7
  tag := v.extractLsb' 8 8
  arg := v.extractLsb' 16 16

/-- A write to CMD (R144, R145, R169). -/
def State.writeCmd (s : State) (c : Cmd) : State := s.wakeWrite.enqueue c

/-- A write to CMDSTAT (R149). -/
def State.writeCmdstat (s : State) (v : Word) : State := s.setCmd { s.cmd with err := s.cmd.err && !v.getLsbD 8 }

/-- The action of an FLTREL write (R155). -/
def actionOfWord (v : Word) : Option Action :=
  let a : BitVec 2 := v.extractLsb' 0 2
  if a = 1 then some .resume else if a = 2 then some .skip else if a = 3 then some .hold else none

/-- A write to FLTREL (R155, R158). -/
def State.writeFltrel (s : State) (v : Word) : State :=
  match actionOfWord v with
  | some a => s.releaseFault a
  | none => s.releaseError

/-- A write to a line error counter (R16). -/
def State.clearCounter (s : State) (c : Counter) : State := s.setCounters (s.counters.put c 0)

/-! ## The register map (R175) -/

/-- The registers of the window. -/
inductive Reg where
  | id | gctl | gstat | haltcause | intstat | inten | cqmod
  | ldiv | lcfg | ltime | llim | linkctl | linkstat
  | plctl
  | plist (i : BitVec 5)
  | lsn (k : Fin 4)
  | stnsel | stndat
  | stnchg (m : Fin 4)
  | mapbase | maplen
  | txbase (n : Fin 4)
  | txsize (n : Fin 4)
  | txprod (n : Fin 4)
  | txcons (n : Fin 4)
  | txstat (n : Fin 4)
  | rxbase | rxsize | rxprod | rxcons | rxctl
  | cqbase | cqsize | cqhead | cqtail
  | cmd | cmdstat
  | fltkind | fltdesc | fltaddr | fltrel | fltpend
  | counter (c : Counter)
  deriving DecidableEq, Repr

/-- A number below 4 from two bits. -/
def fin4 (i : Nat) : Fin 4 := ⟨i % 4, Nat.mod_lt _ (by omega)⟩

/-- The counters in register order (R16). -/
def counters11 : List Counter :=
  [.noise, .framing, .check, .format, .gap, .contention, .stray, .dup, .rxdrop, .breaks, .timeouts]

/-- The registers of transmit ring `n` by their place in the ring's group. -/
def ringReg (n : Fin 4) (j : Nat) : Option Reg :=
  if j = 0 then some (.txbase n) else if j = 1 then some (.txsize n) else if j = 2 then some (.txprod n)
  else if j = 3 then some (.txcons n) else if j = 4 then some (.txstat n) else none

/-- The registers at single offsets (R175). -/
def singleRegs : List (Nat × Reg) :=
  [(0x000, .id), (0x004, .gctl), (0x008, .gstat), (0x00C, .haltcause), (0x010, .intstat), (0x014, .inten),
   (0x018, .cqmod), (0x020, .ldiv), (0x024, .lcfg), (0x028, .ltime), (0x02C, .llim), (0x030, .linkctl),
   (0x034, .linkstat), (0x040, .plctl), (0x110, .stnsel), (0x114, .stndat), (0x130, .mapbase), (0x134, .maplen),
   (0x1C0, .rxbase), (0x1C4, .rxsize), (0x1C8, .rxprod), (0x1CC, .rxcons), (0x1D0, .rxctl), (0x1E0, .cqbase),
   (0x1E4, .cqsize), (0x1E8, .cqhead), (0x1EC, .cqtail), (0x200, .cmd), (0x204, .cmdstat), (0x220, .fltkind),
   (0x224, .fltdesc), (0x228, .fltaddr), (0x22C, .fltrel), (0x230, .fltpend)]

/-- The register at an offset; none where the offset is undefined (R174, R175). -/
def regAt (off : BitVec 12) : Option Reg :=
  let o := off.toNat
  if o % 4 ≠ 0 then none
  else if 0x080 ≤ o ∧ o < 0x100 then some (.plist (BitVec.ofNat 5 ((o - 0x080) / 4)))
  else if 0x100 ≤ o ∧ o < 0x110 then some (.lsn (fin4 ((o - 0x100) / 4)))
  else if 0x118 ≤ o ∧ o < 0x128 then some (.stnchg (fin4 ((o - 0x118) / 4)))
  else if 0x140 ≤ o ∧ o < 0x1C0 then ringReg (fin4 ((o - 0x140) / 0x20)) ((o - 0x140) % 0x20 / 4)
  else if 0x300 ≤ o then (counters11[(o - 0x300) / 4]?).map .counter
  else (singleRegs.find? (·.1 == o)).map (·.2)

/-! ## Writing -/

/-- A register write that the hold and Halt let through in part: what Halt leaves of it (R162, R163). -/
def State.haltWrite (s : State) (r : Reg) (v : Word) : State :=
  match r with
  | .gctl => if v.getLsbD 0 then s.softReset else s
  | .inten => s.writeInten v
  | .intstat => s.writeIntstat v
  | .counter c => s.clearCounter c
  | _ => s

/-- What a write to a register does in Run, Doze-Pending and Doze. A read-only register ignores it (R174). -/
def State.regWrite (s : State) (r : Reg) (v : Word) : State :=
  match r with
  | .id => s
  | .gctl => if v.getLsbD 0 then s.softReset else s.writeGctl v
  | .gstat => s.writeGstat v
  | .haltcause => s
  | .intstat => s.writeIntstat v
  | .inten => s.writeInten v
  | .cqmod => s.writeCqmod v
  | .ldiv => s.writeLdiv v
  | .lcfg => s.writeLcfg v
  | .ltime => s.writeLtime v
  | .llim => s.writeLlim v
  | .linkctl => s.writeLinkctl (v.getLsbD 0) (v.getLsbD 1)
  | .linkstat => s
  | .plctl => s.writePlctl v
  | .plist i => s.writePlist i v
  | .lsn k => s.writeLsn k v
  | .stnsel => s.writeStnsel v
  | .stndat => s.writeStndat v
  | .stnchg m => s.writeStnchg m v
  | .mapbase => s.writeMapbase v
  | .maplen => s.writeMaplen v
  | .txbase n => s.writeTxbase n v
  | .txsize n => s.writeTxsize n v
  | .txprod n => s.writeTxprod n v
  | .txcons _ => s
  | .txstat _ => s
  | .rxbase => s.writeRxbase v
  | .rxsize => s.writeRxsize v
  | .rxprod => s.writeRxprod v
  | .rxcons => s
  | .rxctl => s.writeRxctl (v.getLsbD 0)
  | .cqbase => s.writeCqbase v
  | .cqsize => s.writeCqsize v
  | .cqhead => s.writeCqhead v
  | .cqtail => s
  | .cmd => s.writeCmd (cmdOfWord v)
  | .cmdstat => s.writeCmdstat v
  | .fltkind => s
  | .fltdesc => s
  | .fltaddr => s
  | .fltrel => s.writeFltrel v
  | .fltpend => s
  | .counter c => s.clearCounter c

/-- A host write to an offset (R162, R163, R173, R174). -/
def State.writeAt (s : State) (w : AccessWidth) (off : BitVec 12) (v : Word) : State :=
  if s.held || w == .narrow then s
  else
    match regAt off with
    | none => s
    | some r => if s.halted then s.haltWrite r v else (s.regWrite r v).settle

/-! ## Reading (R173 to R175) -/

/-- STNDAT's image of a record (R68). -/
def Station.image (r : Station) : Word :=
  0#8 ++ r.errCount ++ 0#4 ++ r.missCount ++ 0#1 ++ BitVec.ofBool r.resyncNeeded ++ inSeqCode r.inSeq ++
    BitVec.ofBool r.outSeq ++ BitVec.ofBool r.accept ++ r.presence.code

/-- LSNk's image of a slot (R74). -/
def ListenSlot.image (l : ListenSlot) : Word :=
  0#11 ++ BitVec.ofBool l.resyncWanted ++ 0#2 ++ inSeqCode l.inSeq ++ 0#3 ++ BitVec.ofBool l.outSeq ++ 0#3 ++
    BitVec.ofBool l.enabled ++ 0#1 ++ l.address

/-- FLTKIND of a presented fault (R154). -/
def FaultRecord.kindWord (f : FaultRecord) : Word :=
  1#1 ++ 0#14 ++ BitVec.ofBool f.sent ++ 0#1 ++ f.phase.code ++ 0#1 ++ BitVec.ofNat 3 f.source.code.val ++ 0#4 ++
    f.kind.code

/-- FLTDESC of a presented fault (R154). -/
def FaultRecord.descWord (f : FaultRecord) : Word := 0#4 ++ f.chan ++ 0#8 ++ f.index

/-- GSTAT (R166, R177). -/
def State.gstatWord (s : State) : Word :=
  0#26 ++ BitVec.ofBool s.glb.relErr ++ BitVec.ofBool s.glb.lockWr ++ 0#1 ++
    BitVec.ofBool (s.glb.power == .dozePending) ++ BitVec.ofBool (s.glb.power == .doze) ++ BitVec.ofBool s.halted

/-- XSTN and XKIND read 0 in Disabled and Idle (R33). -/
def Link.shown (l : Link) : BitVec 3 × LineAddr :=
  if l.state = .disabled ∨ l.state = .idle then (0, 0) else (l.x.kind.code, l.x.station)

/-- LINKSTAT (R33, R60). In anchor role ANCHLOST is hidden, not cleared: the model's choice (log 41). -/
def State.linkstatWord (s : State) : Word :=
  0#7 ++ BitVec.ofBool (s.link.anchLost && s.line.role == .member) ++ 0#1 ++ s.link.shown.2 ++ 0#5 ++
    s.link.shown.1 ++ 0#1 ++ s.frx.state.code ++ 0#1 ++ s.link.state.code

/-- RXCTL (R120). -/
def RxPath.ctlWord (r : RxPath) : Word :=
  0#19 ++ BitVec.ofBool r.drain.isSome ++ 0#2 ++ BitVec.ofNat 2 r.buffers.length ++ 0#2 ++
    (if r.faulted then 2#2 else if r.en then 1#2 else 0#2) ++ 0#3 ++ BitVec.ofBool r.en

/-- CMDSTAT (R149). -/
def CommandQueue.statWord (c : CommandQueue) : Word :=
  0#8 ++ c.errTag ++ 0#1 ++ c.errCode.code ++ 0#3 ++ BitVec.ofBool c.err ++ 0#3 ++
    BitVec.ofBool (!c.queue.isEmpty) ++ BitVec.ofNat 4 c.queue.length

/-- FLTPEND (R152). -/
def FaultUnit.pendWord (f : FaultUnit) : Word :=
  0#25 ++ BitVec.ofBool f.waiting[6].isSome ++ BitVec.ofBool f.waiting[5].isSome ++
    BitVec.ofBool f.waiting[4].isSome ++ BitVec.ofBool f.waiting[3].isSome ++ BitVec.ofBool f.waiting[2].isSome ++
    BitVec.ofBool f.waiting[1].isSome ++ BitVec.ofBool f.waiting[0].isSome

/-- What a register reads (chapter 13). -/
def State.readReg (s : State) (r : Reg) : Word :=
  match r with
  | .id => Config.idValue
  | .gctl =>
    0#29 ++ BitVec.ofBool s.glb.ichk ++ BitVec.ofBool (s.glb.power == .dozePending || s.glb.power == .doze) ++ 0#1
  | .gstat => s.gstatWord
  | .haltcause => 0#29 ++ s.glb.haltCause.code
  | .intstat => 0#22 ++ s.glb.intstat
  | .inten => 0#22 ++ s.glb.inten
  | .cqmod => 0#16 ++ s.cq.delay ++ s.cq.count
  | .ldiv => 0#16 ++ s.line.div
  | .lcfg =>
    0#29 ++ BitVec.ofBool s.line.brkSync ++ BitVec.ofBool s.line.stop2 ++ BitVec.ofBool (s.line.role == .member)
  | .ltime => 0#4 ++ s.line.replyWin ++ 0#8 ++ s.line.guard
  | .llim => 0#8 ++ s.line.anchTo ++ 0#4 ++ s.line.burst ++ 0#4 ++ s.line.missLim
  | .linkctl => 0#30 ++ BitVec.ofBool s.link.pollen ++ BitVec.ofBool s.link.en
  | .linkstat => s.linkstatWord
  | .plctl => 0#13 ++ s.poll.round ++ 0#3 ++ s.poll.ptr ++ 0#2 ++ s.poll.len
  | .plist i => 0#25 ++ s.poll.entries[i.toNat]
  | .lsn k => (s.lsn k).image
  | .stnsel => 0#25 ++ s.stn.sel
  | .stndat => (s.station s.stn.sel).image
  | .stnchg m => s.stn.changed.extractLsb' (32 * m.val) 32
  | .mapbase => s.map.base
  | .maplen => 0#19 ++ s.map.len
  | .txbase n => (s.ring n).base
  | .txsize n => 0#28 ++ (s.ring n).size
  | .txprod n => 0#24 ++ (s.ring n).prod
  | .txcons n => 0#24 ++ (s.ring n).cons
  | .txstat n => 0#27 ++ BitVec.ofBool (s.ringSlot n).isSome ++ 0#2 ++ (s.ring n).state.code
  | .rxbase => s.rxp.base
  | .rxsize => 0#28 ++ s.rxp.size
  | .rxprod => 0#24 ++ s.rxp.prod
  | .rxcons => 0#24 ++ s.rxp.cons
  | .rxctl => s.rxp.ctlWord
  | .cqbase => s.cq.base
  | .cqsize => 0#28 ++ s.cq.size
  | .cqhead => 0#22 ++ s.cq.head
  | .cqtail => 0#15 ++ BitVec.ofBool s.cq.phase ++ 0#6 ++ s.cq.tail
  | .cmd => 0
  | .cmdstat => s.cmd.statWord
  | .fltkind => (s.flt.record.map (·.kindWord)).getD 0
  | .fltdesc => (s.flt.record.map (·.descWord)).getD 0
  | .fltaddr => (s.flt.record.map (·.addr)).getD 0
  | .fltrel => 0
  | .fltpend => s.flt.pendWord
  | .counter c => 0#16 ++ s.counters.get c

/-- The word an offset shows in a state as it stands (R173, R174). A host read is `State.hostRead`, which first makes the
starts that are due (log 37). -/
def State.readAt (s : State) (w : AccessWidth) (off : BitVec 12) : Word :=
  if w = .narrow then 0 else ((regAt off).map s.readReg).getD 0

/-- A read that finds a parity error halts the controller; the word returned is a free value (R159, R160, log 11). -/
def State.readHalts (s : State) (c : HaltCause) : State :=
  ({ s with readData := Config.haltedReadData s.freeIndex, freeIndex := s.freeIndex + 1 } : State).enterHalt c

/-- A read of a register whose entry is protected by parity (R68, R74, R159). In Halt, and while the controller is held in
reset, a read only returns the value (R162, R163). -/
def State.readChecked (s : State) (v : Word) (bad : Bool) (c : HaltCause) : State :=
  if bad && s.live then s.readHalts c else s.setRead v

/-- A read of STNDAT (R68). -/
def State.readStndat (s : State) : State :=
  s.readChecked (s.readReg .stndat) (!(s.station s.stn.sel).sound) .stationParity

/-- A read of LSNk (R74). -/
def State.readLsn (s : State) (k : Fin 4) : State :=
  s.readChecked (s.readReg (.lsn k)) (!(s.lsn k).sound) .listenParity

end Sys2Proof.Machine
end

