-- ==== Sys2Proof/Machine/Staging.lean ====
section
/-! DEFINITION. Staging: its start, the phases FETCH, TRANSLATE, MARK and LOAD, staging faults, and the completion of an Err
write (R82 to R89, R103 to R106, R109, R111). -/

namespace Sys2Proof.Machine

/-! ## The start of staging (R103) -/

/-- Ring `n` can be staged from (R103 condition 4, R136). -/
def State.stageable (s : State) (n : Fin 4) : Bool :=
  (s.ring n).state == .running && (s.ring n).prod != (s.ring n).cons && s.ringSlot n == none && !s.skippedHeld n

/-- The lowest-numbered free slot (R103). -/
def State.freeSlot (s : State) : Option (Fin 2) :=
  if (s.slot 0).isNone then some 0 else if (s.slot 1).isNone then some 1 else none

/-- A staging begins, if every condition of R103 holds: the slot is occupied and the descriptor read is issued (R104). -/
def State.stagingStart (s : State) : State :=
  if s.held || s.glb.power != .run || s.stagingSlot.isSome then s
  else
    match s.freeSlot, rings4.find? s.stageable with
    | some k, some n =>
      s.setSlot k (some
        { ring := n, index := (s.ring n).cons, txn := itemAddr (s.ring n).base (s.ring n).cons })
    | _, _ => s

/-! ## Staging faults (R106) -/

/-- A staging fault: the slot is freed, the ring is Faulted and the fault is posted (R106). -/
def State.stagingFault (s : State) (k : Fin 2) (m : Message) (kind : FaultKind) (phase : FaultPhase) (chan : Channel)
    (addr : Word) : State :=
  ((s.setSlot k none).setRingState m.ring .faulted).post
    { source := .tx m.ring, kind := kind, phase := phase, index := m.index, chan := chan, addr := addr, ioc := m.ioc,
      cookie := m.cookie }

/-! ## LOAD (R105) -/

/-- The message is Ready (R105, R35). -/
def Message.ready (m : Message) : Message :=
  { m with phase := .ready, work := none, attempts := 0, lastCause := .none, fullCount := 0, attempted := false }

/-- LOAD begins; with Length 0 it ends at once (R105). -/
def State.beginLoad (s : State) (k : Fin 2) (m : Message) : State :=
  if m.length = 0 then s.setSlot k (some m.ready)
  else s.setSlot k (some { m with phase := .load, txn := m.buffer, payload := [] })

/-! ## MARK and the snapshot (R87, R88) -/

/-- The snapshot of a working copy (R88). -/
def State.snapshot (s : State) (m : Message) (w : Working) : Snapshot where
  chan := m.chan
  e := { w.e.withRef with maxLen := maxLenEff w.e.maxLen }
  addr := w.addr
  persona := w.persona
  bcast := s.line.role == .anchor && w.e.station == 127

/-- MARK has ended: the snapshot is taken and LOAD begins (R88, R104). -/
def State.markEnds (s : State) (k : Fin 2) (m : Message) (w : Working) : State :=
  s.beginLoad k { m with work := some w, snap := some (s.snapshot m w) }

/-- MARK begins: nothing to do when Ref is 1, otherwise the byte-7 write (R87). Its address, which a MARK_BUS fault shows in
FLTADDR, is that of byte 7 itself, the entry's plus 7: the model's choice (log 46). -/
def State.beginMark (s : State) (k : Fin 2) (m : Message) (w : Working) : State :=
  if w.e.ref then s.markEnds k m w
  else s.setSlot k (some { m with work := some w, phase := .mark, txn := w.addr + 7 })

/-! ## TRANSLATE (R81 to R86) -/

/-- The persona slot of a station, or none where the Station step fails (R85). -/
def State.stationStep (s : State) (a : LineAddr) : Option (Fin 4) :=
  match s.line.role with
  | .anchor => if a = 0 then none else some 0
  | .member => s.owner a

/-- Steps 3 to 5 of R84 on a working copy. -/
def State.checkCopy (s : State) (k : Fin 2) (m : Message) (e : MapEntry) (addr : Word) (cached : Bool) : State :=
  match s.stationStep e.station with
  | none => s.stagingFault k m .mapStation .translate m.chan 0
  | some p =>
    if !e.p then s.stagingFault k m .mapDenied .translate m.chan 0
    else if (maxLenEff e.maxLen).toNat < m.length.toNat then s.stagingFault k m .mapLength .translate m.chan 0
    else s.beginMark k m { e := e, addr := addr, persona := p, cached := cached }

/-- A walk begins (R82). -/
def State.beginWalk (s : State) (k : Fin 2) (m : Message) : State :=
  let a := s.map.entryAddr m.chan
  (s.setMap { s.map with walk := some { chan := m.chan, addr := a, permission := true } }).setSlot k
    (some { m with phase := .translate, txn := a })

/-- TRANSLATE begins: the range check and the lookup (R81, R84, R92). -/
def State.translate (s : State) (k : Fin 2) (m : Message) : State :=
  if s.map.len.toNat ≤ m.chan.toNat then s.stagingFault k m .range .translate m.chan 0
  else
    match s.map.find m.chan with
    | none => s.beginWalk k m
    | some e =>
      if e.sound then (s.setMap (s.map.toHead e)).checkCopy k m e.e e.addr true
      else (s.cacheParity .translate m.index m.chan).unlessHalted fun s => s.beginWalk k m

/-! ## Completions -/

/-- The message in phase `p`, its contents read and found sound (R159). -/
def State.withPhase (s : State) (p : SlotPhase) (f : State → Fin 2 → Message → State) : State :=
  match s.findSlot (·.phase == p) with
  | none => s
  | some k =>
    match s.slot k with
    | none => s
    | some m => s.checked (unsound (!m.sound) .stagingParity) fun s => f s k m

/-- The descriptor read completes (R104). -/
def State.fetchDone (s : State) (r : DescRead) : State :=
  s.withPhase .fetch fun s k m =>
    match r with
    | .error => s.stagingFault k m .descBus .fetch 0 m.txn
    | .data w0 w1 w2 w3 =>
      let m1 := { m with
        chan := descChannel w0, length := descLength w0, ioc := descIoc w0, quiet := descQuiet w0, buffer := w1,
        cookie := w2 }
      if txFormatError w0 w3 then s.stagingFault k m1 .descFormat .fetch m1.chan m.txn else s.translate k m1

/-- A walk's read completes (R82, R83). -/
def State.walkDone (s : State) (r : EntryRead) : State :=
  s.withPhase .translate fun s k m =>
    match s.map.walk with
    | none => s
    | some w =>
      let s1 := s.setMap { s.map with walk := none }
      match r with
      | .error => s1.stagingFault k m .mapBus .translate m.chan w.addr
      | .data b =>
        if !entryValid b then s1.stagingFault k m .mapInvalid .translate m.chan w.addr
        else
          let e := entryFields b
          let s2 := if w.permission then s1.setMap (s1.map.toHead { chan := w.chan, addr := w.addr, e := e }) else s1
          s2.checkCopy k m e w.addr w.permission

/-- The byte-7 write of MARK completes (R87). -/
def State.markDone (s : State) (r : WriteResult) : State :=
  s.withPhase .mark fun s k m =>
    match r, m.work with
    | .error, _ => s.stagingFault k m .markBus .mark m.chan m.txn
    | .ok, none => s
    | .ok, some w =>
      let s1 := if w.cached then s.setMap (s.map.update m.chan MapEntry.withRef) else s
      s1.markEnds k m { w with e := w.e.withRef }

/-- A payload read completes (R105): the bytes are stored in order, and the message is Ready after the last. -/
def State.payloadDone (s : State) (r : PayloadRead) : State :=
  s.withPhase .load fun s k m =>
    match r with
    | .error => s.stagingFault k m .payloadBus .load m.chan m.txn
    | .data bytes =>
      let p := (m.payload ++ bytes).take m.length.toNat
      if p.length = m.length.toNat then s.setSlot k (some { m with payload := p }.ready)
      else s.setSlot k (some { m with payload := p, txn := m.buffer + BitVec.ofNat 32 p.length })

/-! ## FINISH (R89, R111) -/

/-- A FINISH fault (R111). -/
def State.finishFault (s : State) (k : Fin 2) (m : Message) : State :=
  ((s.setSlot k (some { m with phase := .finishing .faulted })).setRing m.ring
      { s.ring m.ring with state := .faulted, before := (s.ring m.ring).state }).post
    { source := .tx m.ring, kind := .markBus, phase := .finish, sent := true, index := m.index,
      chan := (m.snap.map (·.chan)).getD 0, addr := m.txn, ioc := m.ioc, cookie := m.cookie }

/-- The Err write of slot `k` completes (R89, R90, R109). -/
def State.errWriteDone (s : State) (k : Fin 2) (r : WriteResult) : State :=
  match s.slot k with
  | none => s
  | some m =>
    if m.phase = .finishing .errWrite then
      s.checked (unsound (!m.sound) .stagingParity) fun s =>
        match r with
        | .error => s.finishFault k m
        | .ok => s.finishDone k m
    else s

end Sys2Proof.Machine
end

