-- ==== Sys2Proof/Machine/Events.lean ====
section
/-! DEFINITION. The shape every command shares: the starts that are already due come first, then the command's own effect,
then the end of the event (log 1); and the passing of one bit time, which is what happens when no command waits (log 2). -/

namespace Sys2Proof.Machine

/-! ## Starts that are due (R41, R103, R123, R137, R167) -/

/-- The starts whose conditions hold already, in the order record write, drain, staging, decision, Doze (log 1). -/
def State.due (s : State) : State :=
  if s.awake then s.recordIssue.drainStart.stagingStart.decision.dozeEntry else s

/-- An event inside the working controller: it has no effect while the controller is held, Halted or in Doze. -/
def State.event (s : State) (f : State → State) : State := if s.due.awake then (f s.due).settle else s.due

/-- A register access that works in Run, Doze-Pending and Doze (R162, R163, R168). -/
def State.access (s : State) (f : State → State) : State := if s.due.live then (f s.due).settle else s.due

/-- A register access that works in Halt too (R162). -/
def State.accessInHalt (s : State) (f : State → State) : State := if s.due.held then s.due else f s.due

/-- What a host read of an offset returns (R173). Like any event it finds the starts already due made: the model's choice
(logs 1 and 37). -/
def State.hostRead (s : State) (w : AccessWidth) (off : BitVec 12) : Word := s.due.readAt w off

/-- An event that only the wake detector can see (R168, R170). -/
def State.atWakeDetector (s : State) (f : State → State) : State :=
  if s.due.watching then (f s.due).settle else s.due

/-- What the line does to a detector: `g` at the wake detector while that watches, otherwise `f` at the receiver (R168,
R170). -/
def State.lineEvent (s : State) (f g : State → State) : State :=
  if s.due.watching then s.atWakeDetector g else s.event f

/-- The completion of a DMA transaction (log 7). -/
def State.dmaEvent (s : State) (t : Txn) (k : DmaKind) (f : State → State) : State :=
  s.due.dmaDone t k fun s => ((f s).finished k).settle

/-! ## Storage disturbances (R159, log 9) -/

/-- Element `i` of a list replaced by `f` of it. -/
def updateAt {α : Type} (l : List α) (i : Nat) (f : α → α) : List α :=
  match l[i]? with
  | some x => l.set i (f x)
  | none => l

/-- A disturbance strikes (R159). -/
def State.strike (s : State) (u : Upset) : State :=
  match u with
  | .station a => s.setStation a { s.station a with sound := false }
  | .listen k => s.setLsn k { s.lsn k with sound := false }
  | .staging k => s.setSlot k ((s.slot k).map fun m => { m with sound := false })
  | .rxBuffer i => s.setRxp { s.rxp with buffers := updateAt s.rxp.buffers i fun r => { r with sound := false } }
  | .command i => s.setCmd { s.cmd with queue := updateAt s.cmd.queue i fun c => { c with sound := false } }
  | .cache i c =>
    s.setMap { s.map with cache := updateAt s.map.cache i fun e => { e with chan := c, sound := false } }

/-- The next disturbance, if one is to come. -/
def State.upset (s : State) : State :=
  match s.upsets with
  | [] => s
  | u :: rest => ({ s with upsets := rest } : State).strike u

/-! ## One bit time (log 2) -/

/-- The receiver's timers after one bit time (R10, R12, R14). A stop bit that was being judged has ended; in Counting a bit
time without the row BREAK_RUN_END is a low period (log 18). -/
def State.tickRx (s : State) : State :=
  if s.rx.stopEnd then (s.setRx { s.rx with brk := s.rx.brk.low }).endStopBit
  else
    s.setRx { s.rx with
      idle := s.rx.idle.map (· + 1), gap := s.rx.gap.map fun g => min Config.gapLimit (g + 1),
      brk := s.rx.brk.low }

/-- The Link Engine's timers after one bit time (R37, R43, R60). -/
def State.tickLink (s : State) : State :=
  s.setLink { s.link with
    x := { s.link.x with waited := if s.awaitingReply then s.link.x.waited + 1 else s.link.x.waited }
    pause := s.link.pause.map (· + 1)
    anchCount := if s.anchorWatch then s.link.anchCount + 1 else s.link.anchCount }

/-- The transmitter after one bit time (R1, R9). -/
def State.tickTx (s : State) : State :=
  if s.tx.phase = .off then s else s.setTx { s.tx with bits := s.tx.bits + 1 }

/-- The moderation delay timer after one bit time (R140). -/
def State.tickDelay (s : State) : State := s.setCq { s.cq with timer := s.cq.timer.map (· + 1) }

/-- The transmitter stands at the end of a character (R3). -/
def LineTx.atCharEnd (t : LineTx) : Bool := t.bits != 0 && t.bits % t.charBits == 0

/-- A break, where this bit time brings the run to 14 (R10, R11). -/
def State.fireBreak (s : State) : State := if s.rx.brk = .counting Config.breakRun then s.breakDetected else s

/-- The end of the transmission, where this bit time brings it (R1, R4, R9, R11, R15). -/
def State.fireTx (s : State) : State :=
  match s.tx.phase with
  | .off => s
  | .brk => if Config.breakTotal ≤ s.tx.bits then s.breakEnds else s
  | .frame =>
    if s.tx.afterBreak then (if s.tx.atCharEnd then s.endsAfterBreak else s)
    else if s.tx.contention then (if s.tx.atCharEnd then s.frameStops else s)
    else if s.tx.chars.length * s.tx.charBits ≤ s.tx.bits then s.frameEnds
    else s

/-- The gap limit, where this bit time brings it (R14). -/
def State.fireGap (s : State) : State := if s.rx.gap = some Config.gapLimit then s.gapExpires else s

/-- The reply deadline, where this bit time brings it (R37). -/
def State.fireDeadline (s : State) : State :=
  if s.awaitingReply && !s.link.x.passed && decide (s.line.replyEff ≤ s.link.x.waited) then s.deadlinePasses else s

/-- The settling of a broadcast, where this bit time ends it (R47). -/
def State.fireSettled (s : State) : State := if s.guardReached then s.broadcastSettles else s

/-- The start of a transmission, where this bit time brings it (R13). A decision taken when the idle time already exceeds the
guard gap starts at the end of the next bit time, or at a row TRANSMISSION_START before it: the model's choice (log 38). -/
def State.fireStart (s : State) : State := s.transmissionStarts

/-- The end of a poll idle pause, where this bit time brings it (R43). -/
def State.firePause (s : State) : State := if s.link.pause.any (s.line.replyEff ≤ ·) then s.pauseEnds else s

/-- The anchor-lost watchdog, where this bit time brings it to its value (R60). An ANCHTO rewritten to a limit that the count
has passed already is reached at the next bit time: the model's choice (log 48). -/
def State.fireAnchor (s : State) : State :=
  if s.line.anchTo.toNat * Config.anchorUnit ≤ s.link.anchCount then s.anchorLost else s

/-- The moderation delay, where this bit time brings it to its value (R140). -/
def State.fireDelay (s : State) : State :=
  if s.cq.timer.any (s.cq.delay.toNat * Config.delayUnit ≤ ·) then s.delayExpires else s

/-- One expiry after another in the order of log 23, each an event of its own. -/
def State.fireAll (s : State) : State :=
  [State.fireBreak, State.fireTx, State.fireGap, State.fireDeadline, State.fireSettled, State.fireStart, State.firePause,
    State.fireAnchor, State.fireDelay].foldl (fun t f => if t.awake then (f t).settle else t) s

/-- One bit time at the wake detector, which is all that counts in Doze: in Counting a low one, and the fourteenth is the
break (R10, R168, R170, log 18). -/
def State.tickWakeDet (s : State) : State :=
  if s.watching then
    if s.wakeDet.reached then s.wakeBreak.settle else s.setWakeDet s.wakeDet.low
  else s

/-- One bit time passes (log 2): a disturbance may strike, what is due starts, the timers count and those that reach their
value expire. Held or Halted nothing counts, and in Doze only the wake detector's run (R143, R161, R168, R170). While the controller is held in reset no disturbance strikes (R163, log 9). -/
def State.tick (s : State) : State :=
  let d := (if s.held then s else s.upset).due
  if d.awake then d.tickRx.tickLink.tickTx.tickDelay.fireAll
  else if d.live then d.tickWakeDet
  else d

end Sys2Proof.Machine
end

