-- ==== Sys2Proof/Machine/Commands.lean ====
section
/-! DEFINITION. The rows of the CMD register: each is a write of one command word (chapter 9). -/

namespace Sys2Proof.Machine

/-- NOP (R144 to R147). -/
def execNop (notify : Bool) (tag : Byte) (arg : BitVec 16) (s : State) : Host.Outcome State Fault Refusal :=
  .next (s.access fun s => s.writeCmd { op := opNop, notify := notify, tag := tag, arg := arg })

/-- INVALIDATE_CHANNEL (R93, R144 to R148). -/
def execInvalidateChannel (notify : Bool) (tag : Byte) (chan : BitVec 16) (s : State) :
    Host.Outcome State Fault Refusal :=
  .next (s.access fun s => s.writeCmd { op := opInvalidateChannel, notify := notify, tag := tag, arg := chan })

/-- INVALIDATE_ALL (R94, R144 to R147). -/
def execInvalidateAll (notify : Bool) (tag : Byte) (arg : BitVec 16) (s : State) :
    Host.Outcome State Fault Refusal :=
  .next (s.access fun s => s.writeCmd { op := opInvalidateAll, notify := notify, tag := tag, arg := arg })

/-- FENCE (R95, R96, R144 to R147). -/
def execFence (notify : Bool) (tag : Byte) (arg : BitVec 16) (s : State) : Host.Outcome State Fault Refusal :=
  .next (s.access fun s => s.writeCmd { op := opFence, notify := notify, tag := tag, arg := arg })

/-- LINE_BREAK (R41, R52, R144 to R148). -/
def execLineBreak (notify : Bool) (tag : Byte) (arg : BitVec 16) (s : State) : Host.Outcome State Fault Refusal :=
  .next (s.access fun s => s.writeCmd { op := opLineBreak, notify := notify, tag := tag, arg := arg })

/-- SYNC_ALL (R41, R51, R144 to R148). -/
def execSyncAll (notify : Bool) (tag : Byte) (arg : BitVec 16) (s : State) : Host.Outcome State Fault Refusal :=
  .next (s.access fun s => s.writeCmd { op := opSyncAll, notify := notify, tag := tag, arg := arg })

/-- STATION_RESET (R69, R144 to R148). -/
def execStationReset (notify : Bool) (tag : Byte) (station : BitVec 16) (s : State) :
    Host.Outcome State Fault Refusal :=
  .next (s.access fun s => s.writeCmd { op := opStationReset, notify := notify, tag := tag, arg := station })

/-- RING_START (R113, R136, R144 to R148). -/
def execRingStart (notify : Bool) (tag : Byte) (ring : BitVec 16) (s : State) : Host.Outcome State Fault Refusal :=
  .next (s.access fun s => s.writeCmd { op := opRingStart, notify := notify, tag := tag, arg := ring })

/-- RING_STOP (R114 to R116, R144 to R148). -/
def execRingStop (notify : Bool) (tag : Byte) (ring : BitVec 16) (s : State) : Host.Outcome State Fault Refusal :=
  .next (s.access fun s => s.writeCmd { op := opRingStop, notify := notify, tag := tag, arg := ring })

/-- ILLEGAL_COMMAND (R144 to R148). -/
def execIllegalCommand (op : BitVec 4) (notify : Bool) (tag : Byte) (arg : BitVec 16) (s : State) :
    Host.Outcome State Fault Refusal :=
  .next (s.access fun s => s.writeCmd { op := op, notify := notify, tag := tag, arg := arg })

end Sys2Proof.Machine
end

