-- ==== Sys2Proof/Machine/CompletionEvents.lean ====
section
/-! DEFINITION. The rows of the Completion Writer (chapter 8). -/

namespace Sys2Proof.Machine

/-- The record write completes (R137, R139). -/
def State.recordDone (s : State) (r : WriteResult) : State :=
  match r with
  | .ok => s.recordWritten
  | .error => s.recordFailed

/-- RECORD_WRITE_ISSUE (R134, R137). -/
def execRecordWriteIssue (s : State) : Host.Outcome State Fault Refusal :=
  .next (s.recordIssue)

/-- RECORD_WRITE_COMPLETE (R137 to R140). -/
def execRecordWriteComplete (t : Txn) (r : WriteResult) (s : State) : Host.Outcome State Fault Refusal :=
  .next (s.dmaEvent t .record fun s => s.recordDone r)

/-- MODERATION_DELAY_EXPIRY (R140). -/
def execModerationDelayExpiry (s : State) : Host.Outcome State Fault Refusal :=
  .next (s.event State.delayExpires)

end Sys2Proof.Machine
end

