-- ==== Sys2Proof/Machine/LineEvents.lean ====
section
/-! DEFINITION. The rows of the drop line and its receiver (chapters 1 and 2). -/

namespace Sys2Proof.Machine

/-- CHARACTER_RECEIVED (R6, R8, R15, R25 to R31). -/
def execCharacterReceived (c : RxChar) (s : State) : Host.Outcome State Fault Refusal :=
  .next (s.event fun s => s.charReceived c)

/-- GAP_LIMIT_TRUNCATION (R14). -/
def execGapLimitTruncation (s : State) : Host.Outcome State Fault Refusal :=
  .next (s.event State.gapExpires)

/-- BREAK_DETECTED (R10, R11, R53, R59). -/
def execBreakDetected (s : State) : Host.Outcome State Fault Refusal :=
  .next (s.event State.breakDetected)

/-- BREAK_DETECTOR_REARM (R10). -/
def execBreakDetectorRearm (s : State) : Host.Outcome State Fault Refusal :=
  .next (s.event State.breakRearm)

/-- BREAK_RUN_END (R10), at the wake detector in Doze (R170). -/
def execBreakRunEnd (s : State) : Host.Outcome State Fault Refusal :=
  .next (s.lineEvent State.breakRunEnd State.wakeRunEnd)

/-- FALSE_START (R7, R14). -/
def execFalseStart (s : State) : Host.Outcome State Fault Refusal :=
  .next (s.event State.falseStartSeen)

/-- IDLE_REFERENCE_POINT (R5, R7, R8, R12). -/
def execIdleReferencePoint (s : State) : Host.Outcome State Fault Refusal :=
  .next (s.event State.idlePoint)

/-- FALLING_EDGE (R6, R10, R12, R36), at the wake detector in Doze (R170). -/
def execFallingEdge (s : State) : Host.Outcome State Fault Refusal :=
  .next (s.lineEvent State.fallingEdge State.wakeEdge)

end Sys2Proof.Machine
end

