-- ==== Sys2Proof/Machine/ReceiveEvents.lean ====
section
/-! DEFINITION. The rows of the receive path (chapter 7). -/

namespace Sys2Proof.Machine

/-- DRAIN_START (R123, R124). -/
def execDrainStart (s : State) : Host.Outcome State Fault Refusal :=
  .next (s.drainStart)

/-- RX_DESCRIPTOR_READ_COMPLETE (R124, R125, R128). -/
def execRxDescriptorReadComplete (t : Txn) (r : DescRead) (s : State) : Host.Outcome State Fault Refusal :=
  .next (s.dmaEvent t .rxDesc fun s => s.rxDescDone r)

/-- RX_PAYLOAD_WRITE_COMPLETE (R125, R126, R128). -/
def execRxPayloadWriteComplete (t : Txn) (count : Nat) (r : WriteResult) (s : State) :
    Host.Outcome State Fault Refusal :=
  .next (s.dmaEvent t .rxPayload fun s => s.rxPayloadDone count r)

/-- WORD2_WRITE_COMPLETE (R126, R128). -/
def execWord2WriteComplete (t : Txn) (r : WriteResult) (s : State) : Host.Outcome State Fault Refusal :=
  .next (s.dmaEvent t .word2 fun s => s.word2Done r)

/-- WORD3_WRITE_COMPLETE (R126, R128). -/
def execWord3WriteComplete (t : Txn) (r : WriteResult) (s : State) : Host.Outcome State Fault Refusal :=
  .next (s.dmaEvent t .word3 fun s => s.word3Done r)

end Sys2Proof.Machine
end

