-- ==== Sys2Proof/Machine/RegisterAccess.lean ====
section
/-! DEFINITION. The rows that write or read a register (chapter 13). -/

namespace Sys2Proof.Machine

/-- TX_DOORBELL (R100, R169). -/
def execTxDoorbell (ring : Fin 4) (v : Word) (s : State) : Host.Outcome State Fault Refusal :=
  .next (s.access fun s => s.writeTxprod ring v)

/-- RX_DOORBELL (R119, R169). -/
def execRxDoorbell (v : Word) (s : State) : Host.Outcome State Fault Refusal :=
  .next (s.access fun s => s.writeRxprod v)

/-- CQHEAD_WRITE (R132, R138, R169). -/
def execCqheadWrite (v : Word) (s : State) : Host.Outcome State Fault Refusal :=
  .next (s.access fun s => s.writeCqhead v)

/-- TXSIZE_WRITE (R99, R172, R176). -/
def execTxsizeWrite (ring : Fin 4) (v : Word) (s : State) : Host.Outcome State Fault Refusal :=
  .next (s.access fun s => s.writeTxsize ring v)

/-- RXSIZE_WRITE (R118, R176). -/
def execRxsizeWrite (v : Word) (s : State) : Host.Outcome State Fault Refusal :=
  .next (s.access fun s => s.writeRxsize v)

/-- CQSIZE_WRITE (R131, R133, R140, R176). -/
def execCqsizeWrite (v : Word) (s : State) : Host.Outcome State Fault Refusal :=
  .next (s.access fun s => s.writeCqsize v)

/-- LINK_ENABLE: a LINKCTL write with EN = 1 (R5, R32, R61, R168). -/
def execLinkEnable (pollen : Bool) (s : State) : Host.Outcome State Fault Refusal :=
  .next (s.access fun s => s.writeLinkctl true pollen)

/-- LINK_DISABLE: a LINKCTL write with EN = 0 (R5, R61, R168). -/
def execLinkDisable (pollen : Bool) (s : State) : Host.Outcome State Fault Refusal :=
  .next (s.access fun s => s.writeLinkctl false pollen)

/-- POLL_ENABLE: a LINKCTL write with POLLEN = 1 (R71). -/
def execPollEnable (en : Bool) (s : State) : Host.Outcome State Fault Refusal :=
  .next (s.access fun s => s.writeLinkctl en true)

/-- POLL_DISABLE: a LINKCTL write with POLLEN = 0 (R43, R71). -/
def execPollDisable (en : Bool) (s : State) : Host.Outcome State Fault Refusal :=
  .next (s.access fun s => s.writeLinkctl en false)

/-- RX_ENABLE: an RXCTL write with EN = 1 (R120, R127). -/
def execRxEnable (s : State) : Host.Outcome State Fault Refusal :=
  .next (s.access fun s => s.writeRxctl true)

/-- RX_DISABLE: an RXCTL write with EN = 0 (R120, R127). -/
def execRxDisable (s : State) : Host.Outcome State Fault Refusal :=
  .next (s.access fun s => s.writeRxctl false)

/-- INTSTAT_CLEAR (R141, R162). -/
def execIntstatClear (v : Word) (s : State) : Host.Outcome State Fault Refusal :=
  .next (s.accessInHalt fun s => s.writeIntstat v)

/-- INTEN_WRITE (R142, R162). -/
def execIntenWrite (v : Word) (s : State) : Host.Outcome State Fault Refusal :=
  .next (s.accessInHalt fun s => s.writeInten v)

/-- STNCHG_CLEAR (R67). -/
def execStnchgClear (m : Fin 4) (v : Word) (s : State) : Host.Outcome State Fault Refusal :=
  .next (s.access fun s => s.writeStnchg m v)

/-- GSTAT_CLEAR (R158, R177). -/
def execGstatClear (v : Word) (s : State) : Host.Outcome State Fault Refusal :=
  .next (s.access fun s => s.writeGstat v)

/-- CMDSTAT_CLEAR (R149, R150). -/
def execCmdstatClear (v : Word) (s : State) : Host.Outcome State Fault Refusal :=
  .next (s.access fun s => s.writeCmdstat v)

/-- STNDAT_WRITE (R66, R68). -/
def execStndatWrite (v : Word) (s : State) : Host.Outcome State Fault Refusal :=
  .next (s.access fun s => s.writeStndat v)

/-- STNDAT_READ (R68, R159, R160). -/
def execStndatRead (s : State) : Host.Outcome State Fault Refusal :=
  .next (s.due.readStndat)

/-- LSN_WRITE (R74, R176). -/
def execLsnWrite (k : Fin 4) (v : Word) (s : State) : Host.Outcome State Fault Refusal :=
  .next (s.access fun s => s.writeLsn k v)

/-- LSN_READ (R74, R159, R160). -/
def execLsnRead (k : Fin 4) (s : State) : Host.Outcome State Fault Refusal :=
  .next (s.due.readLsn k)

/-- CQMOD_WRITE (R140). -/
def execCqmodWrite (v : Word) (s : State) : Host.Outcome State Fault Refusal :=
  .next (s.access fun s => s.writeCqmod v)

/-- COUNTER_CLEAR: a write of any value (R16, R162). -/
def execCounterClear (c : Counter) (_v : Word) (s : State) : Host.Outcome State Fault Refusal :=
  .next (s.accessInHalt fun s => s.clearCounter c)

/-- REGISTER_WRITE (R162, R163, R173 to R177). -/
def execRegisterWrite (w : AccessWidth) (off : BitVec 12) (v : Word) (s : State) :
    Host.Outcome State Fault Refusal :=
  .next (s.due.writeAt w off v)

end Sys2Proof.Machine
end

