-- ==== Sys2Proof/Machine/Releases.lean ====
section
/-! DEFINITION. The rows of FLTREL (chapter 10). -/

namespace Sys2Proof.Machine

/-- RESUME: FLTREL action 1 (R155 to R158). -/
def execResume (s : State) : Host.Outcome State Fault Refusal :=
  .next (s.access fun s => s.releaseFault .resume)

/-- SKIP: FLTREL action 2 (R155 to R158). -/
def execSkip (s : State) : Host.Outcome State Fault Refusal :=
  .next (s.access fun s => s.releaseFault .skip)

/-- HOLD: FLTREL action 3 (R155 to R158). -/
def execHold (s : State) : Host.Outcome State Fault Refusal :=
  .next (s.access fun s => s.releaseFault .hold)

end Sys2Proof.Machine
end

