-- ==== Sys2Proof/Machine/Resets.lean ====
section
/-! DEFINITION. The reset and power rows (chapter 11). -/

namespace Sys2Proof.Machine

/-- POWER_ON_RESET (R163 to R165). -/
def execPowerOnReset (s : State) : Host.Outcome State Fault Refusal :=
  .next (s.due.powerOn)

/-- HARD_RESET (R163 to R165). -/
def execHardReset (s : State) : Host.Outcome State Fault Refusal :=
  .next (s.due.hardReset)

/-- RESET_HOLD_END (R163). -/
def execResetHoldEnd (src : HoldSource) (s : State) : Host.Outcome State Fault Refusal :=
  .next (s.due.holdEnd src)

/-- SOFT_RESET: a GCTL write with SRST = 1, accepted in Halt too (R162 to R165). -/
def execSoftReset (s : State) : Host.Outcome State Fault Refusal :=
  .next (s.accessInHalt State.softReset)

/-- DOZE_REQUEST: a GCTL write with SRST = 0 and DOZE = 1 (R92, R166, R167). -/
def execDozeRequest (ichk : Bool) (s : State) : Host.Outcome State Fault Refusal :=
  .next (s.access fun s => s.dozeRequest ichk)

/-- DOZE_CANCEL: a GCTL write with SRST = 0 and DOZE = 0 (R92, R166, R169). -/
def execDozeCancel (ichk : Bool) (s : State) : Host.Outcome State Fault Refusal :=
  .next (s.access fun s => s.dozeCancel ichk)

/-- DOZE_ENTRY (R167, R168). -/
def execDozeEntry (s : State) : Host.Outcome State Fault Refusal :=
  .next (s.dozeEntry)

/-- WAKE_HEAD_CHARACTER (R169, R170). -/
def execWakeHeadCharacter (c : RxChar) (s : State) : Host.Outcome State Fault Refusal :=
  .next (s.atWakeDetector fun s => s.wakeHead c)

/-- WAKE_BREAK (R11, R59, R169, R170). -/
def execWakeBreak (s : State) : Host.Outcome State Fault Refusal :=
  .next (s.atWakeDetector State.wakeBreakSeen)

end Sys2Proof.Machine
end

