-- ==== Sys2Proof/Machine/StagingEvents.lean ====
section
/-! DEFINITION. The rows of staging (chapters 5 and 6). -/

namespace Sys2Proof.Machine

/-- An Err write-back belongs to the slot its row names only if that slot waits for one (log 7). -/
def State.errWriteOwner (s : State) (t : Txn) (k : Fin 2) : Txn :=
  if slotDma (s.slot k) = [.errWrite] then t else .orphan

/-- STAGING_START (R103, R104). -/
def execStagingStart (s : State) : Host.Outcome State Fault Refusal :=
  .next (s.stagingStart)

/-- FETCH_COMPLETE (R84 to R87, R92, R102, R104, R106). -/
def execFetchComplete (t : Txn) (r : DescRead) (s : State) : Host.Outcome State Fault Refusal :=
  .next (s.dmaEvent t .fetch fun s => s.fetchDone r)

/-- WALK_COMPLETE (R82 to R88). -/
def execWalkComplete (t : Txn) (r : EntryRead) (s : State) : Host.Outcome State Fault Refusal :=
  .next (s.dmaEvent t .walk fun s => s.walkDone r)

/-- MARK_WRITE_COMPLETE (R87, R88, R105). -/
def execMarkWriteComplete (t : Txn) (r : WriteResult) (s : State) : Host.Outcome State Fault Refusal :=
  .next (s.dmaEvent t .mark fun s => s.markDone r)

/-- PAYLOAD_READ_COMPLETE (R105, R106). -/
def execPayloadReadComplete (t : Txn) (r : PayloadRead) (s : State) : Host.Outcome State Fault Refusal :=
  .next (s.dmaEvent t .payload fun s => s.payloadDone r)

/-- ERR_WRITE_BACK_COMPLETE (R89, R90, R109, R111). -/
def execErrWriteBackComplete (t : Txn) (slot : Fin 2) (r : WriteResult) (s : State) :
    Host.Outcome State Fault Refusal :=
  .next (s.dmaEvent (s.due.errWriteOwner t slot) .errWrite fun s => s.errWriteDone slot r)

end Sys2Proof.Machine
end

