-- ==== Sys2Proof/Machine/Transmission.lean ====
section
/-! DEFINITION. The rows of the transmitter, the Link Engine's timers and its decision (chapters 1, 3 and 4). -/

namespace Sys2Proof.Machine

/-- TRANSMISSION_START (R1, R4, R9, R13, R24, R29, R35). -/
def execTransmissionStart (s : State) : Host.Outcome State Fault Refusal :=
  .next (s.event State.transmissionStarts)

/-- FRAME_SENT (R1, R4, R37, R47, R49, R51, R61). -/
def execFrameSent (s : State) : Host.Outcome State Fault Refusal :=
  .next (s.event State.frameEnds)

/-- FRAME_STOPPED (R15, R46, R49, R57, R61). -/
def execFrameStopped (s : State) : Host.Outcome State Fault Refusal :=
  .next (s.event State.frameStops)

/-- BREAK_SENT (R9, R52, R61). -/
def execBreakSent (s : State) : Host.Outcome State Fault Refusal :=
  .next (s.event State.breakEnds)

/-- TRANSMISSION_END_AFTER_BREAK (R1, R11, R12). -/
def execTransmissionEndAfterBreak (s : State) : Host.Outcome State Fault Refusal :=
  .next (s.event State.endsAfterBreak)

/-- REPLY_WINDOW_EXPIRY (R37). -/
def execReplyWindowExpiry (s : State) : Host.Outcome State Fault Refusal :=
  .next (s.event State.deadlinePasses)

/-- BROADCAST_SETTLED (R47). -/
def execBroadcastSettled (s : State) : Host.Outcome State Fault Refusal :=
  .next (s.event State.broadcastSettles)

/-- POLL_IDLE_PAUSE_END (R43). -/
def execPollIdlePauseEnd (s : State) : Host.Outcome State Fault Refusal :=
  .next (s.event State.pauseEnds)

/-- ANCHOR_LOST (R60). -/
def execAnchorLost (s : State) : Host.Outcome State Fault Refusal :=
  .next (s.event State.anchorLost)

/-- DECISION (R41 to R43, R72, R73). -/
def execDecision (s : State) : Host.Outcome State Fault Refusal :=
  .next (s.decision)

end Sys2Proof.Machine
end

