-- ==== Sys2Proof/Machine/Dispatch.lean ====
section
/-! DEFINITION. The dispatch of a command to its meaning. -/

namespace Sys2Proof.Machine

/-- The effect of a command on everything but the queue it came from. -/
def exec (i : Instr) (s : State) : Host.Outcome State Fault Refusal :=
  match i with
  | .powerOnReset => Sys2Proof.Machine.execPowerOnReset s
  | .hardReset => Sys2Proof.Machine.execHardReset s
  | .resetHoldEnd src => Sys2Proof.Machine.execResetHoldEnd src s
  | .softReset => Sys2Proof.Machine.execSoftReset s
  | .dozeRequest ichk => Sys2Proof.Machine.execDozeRequest ichk s
  | .dozeCancel ichk => Sys2Proof.Machine.execDozeCancel ichk s
  | .dozeEntry => Sys2Proof.Machine.execDozeEntry s
  | .wakeHeadCharacter c => Sys2Proof.Machine.execWakeHeadCharacter c s
  | .characterReceived c => Sys2Proof.Machine.execCharacterReceived c s
  | .gapLimitTruncation => Sys2Proof.Machine.execGapLimitTruncation s
  | .breakDetected => Sys2Proof.Machine.execBreakDetected s
  | .breakDetectorRearm => Sys2Proof.Machine.execBreakDetectorRearm s
  | .transmissionStart => Sys2Proof.Machine.execTransmissionStart s
  | .frameSent => Sys2Proof.Machine.execFrameSent s
  | .frameStopped => Sys2Proof.Machine.execFrameStopped s
  | .breakSent => Sys2Proof.Machine.execBreakSent s
  | .replyWindowExpiry => Sys2Proof.Machine.execReplyWindowExpiry s
  | .broadcastSettled => Sys2Proof.Machine.execBroadcastSettled s
  | .pollIdlePauseEnd => Sys2Proof.Machine.execPollIdlePauseEnd s
  | .anchorLost => Sys2Proof.Machine.execAnchorLost s
  | .moderationDelayExpiry => Sys2Proof.Machine.execModerationDelayExpiry s
  | .decision => Sys2Proof.Machine.execDecision s
  | .stagingStart => Sys2Proof.Machine.execStagingStart s
  | .fetchComplete t r => Sys2Proof.Machine.execFetchComplete t r s
  | .walkComplete t r => Sys2Proof.Machine.execWalkComplete t r s
  | .markWriteComplete t r => Sys2Proof.Machine.execMarkWriteComplete t r s
  | .payloadReadComplete t r => Sys2Proof.Machine.execPayloadReadComplete t r s
  | .errWriteBackComplete t slot r => Sys2Proof.Machine.execErrWriteBackComplete t slot r s
  | .drainStart => Sys2Proof.Machine.execDrainStart s
  | .rxDescriptorReadComplete t r => Sys2Proof.Machine.execRxDescriptorReadComplete t r s
  | .rxPayloadWriteComplete t count r => Sys2Proof.Machine.execRxPayloadWriteComplete t count r s
  | .word2WriteComplete t r => Sys2Proof.Machine.execWord2WriteComplete t r s
  | .word3WriteComplete t r => Sys2Proof.Machine.execWord3WriteComplete t r s
  | .recordWriteIssue => Sys2Proof.Machine.execRecordWriteIssue s
  | .recordWriteComplete t r => Sys2Proof.Machine.execRecordWriteComplete t r s
  | .nop notify tag arg => Sys2Proof.Machine.execNop notify tag arg s
  | .invalidateChannel notify tag chan => Sys2Proof.Machine.execInvalidateChannel notify tag chan s
  | .invalidateAll notify tag arg => Sys2Proof.Machine.execInvalidateAll notify tag arg s
  | .fence notify tag arg => Sys2Proof.Machine.execFence notify tag arg s
  | .lineBreak notify tag arg => Sys2Proof.Machine.execLineBreak notify tag arg s
  | .syncAll notify tag arg => Sys2Proof.Machine.execSyncAll notify tag arg s
  | .stationReset notify tag station => Sys2Proof.Machine.execStationReset notify tag station s
  | .ringStart notify tag ring => Sys2Proof.Machine.execRingStart notify tag ring s
  | .ringStop notify tag ring => Sys2Proof.Machine.execRingStop notify tag ring s
  | .illegalCommand op notify tag arg => Sys2Proof.Machine.execIllegalCommand op notify tag arg s
  | .resume => Sys2Proof.Machine.execResume s
  | .skip => Sys2Proof.Machine.execSkip s
  | .hold => Sys2Proof.Machine.execHold s
  | .txDoorbell ring v => Sys2Proof.Machine.execTxDoorbell ring v s
  | .rxDoorbell v => Sys2Proof.Machine.execRxDoorbell v s
  | .cqheadWrite v => Sys2Proof.Machine.execCqheadWrite v s
  | .txsizeWrite ring v => Sys2Proof.Machine.execTxsizeWrite ring v s
  | .rxsizeWrite v => Sys2Proof.Machine.execRxsizeWrite v s
  | .cqsizeWrite v => Sys2Proof.Machine.execCqsizeWrite v s
  | .linkEnable pollen => Sys2Proof.Machine.execLinkEnable pollen s
  | .linkDisable pollen => Sys2Proof.Machine.execLinkDisable pollen s
  | .pollEnable en => Sys2Proof.Machine.execPollEnable en s
  | .pollDisable en => Sys2Proof.Machine.execPollDisable en s
  | .rxEnable => Sys2Proof.Machine.execRxEnable s
  | .rxDisable => Sys2Proof.Machine.execRxDisable s
  | .intstatClear v => Sys2Proof.Machine.execIntstatClear v s
  | .intenWrite v => Sys2Proof.Machine.execIntenWrite v s
  | .stnchgClear m v => Sys2Proof.Machine.execStnchgClear m v s
  | .gstatClear v => Sys2Proof.Machine.execGstatClear v s
  | .cmdstatClear v => Sys2Proof.Machine.execCmdstatClear v s
  | .stndatWrite v => Sys2Proof.Machine.execStndatWrite v s
  | .stndatRead => Sys2Proof.Machine.execStndatRead s
  | .lsnWrite k v => Sys2Proof.Machine.execLsnWrite k v s
  | .lsnRead k => Sys2Proof.Machine.execLsnRead k s
  | .cqmodWrite v => Sys2Proof.Machine.execCqmodWrite v s
  | .counterClear c v => Sys2Proof.Machine.execCounterClear c v s
  | .registerWrite w off v => Sys2Proof.Machine.execRegisterWrite w off v s
  | .falseStart => Sys2Proof.Machine.execFalseStart s
  | .idleReferencePoint => Sys2Proof.Machine.execIdleReferencePoint s
  | .fallingEdge => Sys2Proof.Machine.execFallingEdge s
  | .breakRunEnd => Sys2Proof.Machine.execBreakRunEnd s
  | .transmissionEndAfterBreak => Sys2Proof.Machine.execTransmissionEndAfterBreak s
  | .wakeBreak => Sys2Proof.Machine.execWakeBreak s

end Sys2Proof.Machine
end

