-- ==== Sys2Proof/Machine/Step.lean ====
section
/-! DEFINITION. One step: the command at the front of the queue, or one bit time where none waits. -/

namespace Sys2Proof.Machine

/-- The state with another queue of commands. -/
def State.setPending (s : State) (q : List Instr) : State := { s with pending := q }

/-- One step (log 2, log 34). -/
def step (s : State) : Host.Outcome State Fault Refusal :=
  match s.pending with
  | [] => .next s.tick
  | c :: rest => exec c (s.setPending rest)

/-- `s` with the command that a word spells at the front of its queue; no row has bits, so no word spells one (log 29). -/
def State.withFetchWord (s : State) (nbits w : Nat) : State :=
  match decodeTableWord nbits w with
  | some c => s.setPending (c :: s.pending)
  | none => s

end Sys2Proof.Machine
end

