-- ==== Sys2Proof/Safety.lean ====
section
/-! DEFINITION. What a sound state of the block is: the bounds the spec puts on its buffers, its registers and its indices,
and the records that are never changed. -/

namespace Sys2Proof

/-- The rows that happen inside the working controller: starts of its units, events of the line, expiries of timers. A falling
edge and the end of a low run reach the wake detector too, in Doze (R170). -/
def Instr.internal : Instr → Bool
  | .dozeEntry => true
  | .characterReceived _ => true
  | .gapLimitTruncation => true
  | .breakDetected => true
  | .breakDetectorRearm => true
  | .breakRunEnd => true
  | .falseStart => true
  | .idleReferencePoint => true
  | .fallingEdge => true
  | .transmissionStart => true
  | .frameSent => true
  | .frameStopped => true
  | .breakSent => true
  | .transmissionEndAfterBreak => true
  | .replyWindowExpiry => true
  | .broadcastSettled => true
  | .pollIdlePauseEnd => true
  | .anchorLost => true
  | .moderationDelayExpiry => true
  | .decision => true
  | .stagingStart => true
  | .drainStart => true
  | .recordWriteIssue => true
  | _ => false

/-- The rows that set or end a hold in reset (R163). -/
def Instr.setsHold : Instr → Bool
  | .powerOnReset => true
  | .hardReset => true
  | .resetHoldEnd _ => true
  | _ => false

/-- The rows that report the completion of a DMA transaction. -/
def Instr.completesDma : Instr → Bool
  | .fetchComplete _ _ => true
  | .walkComplete _ _ => true
  | .markWriteComplete _ _ => true
  | .payloadReadComplete _ _ => true
  | .errWriteBackComplete _ _ _ => true
  | .rxDescriptorReadComplete _ _ => true
  | .rxPayloadWriteComplete _ _ _ => true
  | .word2WriteComplete _ _ => true
  | .word3WriteComplete _ _ => true
  | .recordWriteComplete _ _ => true
  | _ => false

/-- The two reads that are commands. -/
def Instr.readsRegister : Instr → Bool
  | .stndatRead => true
  | .lsnRead _ => true
  | _ => false

/-- The register writes that Halt lets through (R162), and the row that writes any register. -/
def Instr.openInHalt : Instr → Bool
  | .softReset => true
  | .intstatClear _ => true
  | .intenWrite _ => true
  | .counterClear _ _ => true
  | .registerWrite _ _ _ => true
  | _ => false

/-- The rows that write a configuration register, or give every register its reset value. -/
def Instr.configures : Instr → Bool
  | .powerOnReset => true
  | .hardReset => true
  | .txsizeWrite _ _ => true
  | .rxsizeWrite _ => true
  | .cqsizeWrite _ => true
  | .cqmodWrite _ => true
  | .lsnWrite _ _ => true
  | .intenWrite _ => true
  | .dozeRequest _ => true
  | .dozeCancel _ => true
  | .stndatWrite _ => true
  | .registerWrite _ _ _ => true
  | _ => false

end Sys2Proof

namespace Sys2Proof.Machine

/-- The registers whose writes have an effect in Halt (R162). -/
def Reg.openInHalt : Reg → Bool
  | .gctl => true
  | .inten => true
  | .intstat => true
  | .counter _ => true
  | _ => false

/-- Nothing waits in the holding list or in the command queue. -/
def State.NothingWaits (s : State) : Prop := s.cq.holding = [] ∧ s.cmd.queue = []

/-- Slot `k` holds the message `m` in phase `p`, its contents sound, and the other slot holds none in that phase. -/
def State.StagedIn (s : State) (k : Fin 2) (m : Message) (p : SlotPhase) : Prop :=
  s.slot k = some m ∧ m.phase = p ∧ m.sound = true ∧ (s.slot (otherSlot k)).all (fun x => x.phase != p) = true

/-- Listen slot `p` owns a line address: the lowest-numbered usable slot that holds it (R75). -/
def State.Owns (s : State) (p : Fin 4) (a : LineAddr) : Prop :=
  (s.lsn p).enabled = true ∧ (s.lsn p).address = a ∧ a ≠ 0 ∧ a ≠ 127 ∧
    ∀ j : Fin 4, j < p → ¬((s.lsn j).enabled = true ∧ (s.lsn j).address = a)

/-- What the Permission and Length steps and the begin of MARK have made, in `u`, of the message `m` of slot `k` and a working
copy whose Station has passed with persona slot `w.persona` (R84, R86 to R88). The address of the mark is the model's choice
(log 46). -/
def State.CopyMarked (s u : State) (k : Fin 2) (m : Message) (w : Working) (failed : FaultKind → Prop) : Prop :=
  (w.e.p = false → failed .mapDenied) ∧
  (w.e.p = true → (maxLenEff w.e.maxLen).toNat < m.length.toNat → failed .mapLength) ∧
  (w.e.p = true → m.length.toNat ≤ (maxLenEff w.e.maxLen).toNat →
    (w.e.byte7.getLsbD 0 = false →
      u.slot k = some { m with phase := .mark, txn := w.addr + 7, work := some w }) ∧
    (w.e.byte7.getLsbD 0 = true → ∃ n : Snapshot,
      n.chan = m.chan ∧ n.addr = w.addr ∧ n.persona = w.persona ∧
      n.bcast = (s.line.role == .anchor && w.e.station == 127) ∧ n.e.maxLen = maxLenEff w.e.maxLen ∧
      n.e.byte7 = w.e.byte7 ∧ n.e.p = w.e.p ∧ n.e.station = w.e.station ∧ n.e.port = w.e.port ∧
      n.e.retry = w.e.retry ∧ n.e.fullLimit = w.e.fullLimit ∧
      (m.length ≠ 0 → u.slot k = some
        { m with phase := .load, txn := m.buffer, payload := [], work := some w, snap := some n }) ∧
      (m.length = 0 → u.slot k = some
        { m with
          phase := .ready, work := none, snap := some n, attempts := 0, lastCause := .none, fullCount := 0,
          attempted := false })))

/-- What the Station step and the steps after it have made, in `u`, of the message `m` of slot `k` and the copy `e` read from
`addr` (R84 to R88). -/
def State.CopyChecked (s u : State) (k : Fin 2) (m : Message) (e : MapEntry) (addr : Word) (cached : Bool) : Prop :=
  let failed (kind : FaultKind) : Prop :=
    u.slot k = none ∧ u.ring m.ring = { s.ring m.ring with state := .faulted } ∧ u.flt.record = some {
      source := .tx m.ring, kind := kind, phase := .translate, index := m.index, chan := m.chan, addr := 0,
      ioc := m.ioc, cookie := m.cookie }
  let passed (p : Fin 4) : Prop := s.CopyMarked u k m { e := e, addr := addr, persona := p, cached := cached } failed
  (s.line.role = .anchor → (e.station = 0 → failed .mapStation) ∧ (e.station ≠ 0 → passed 0)) ∧
  (s.line.role = .member →
    ((∀ p : Fin 4, ¬s.Owns p e.station) → failed .mapStation) ∧ ∀ p : Fin 4, s.Owns p e.station → passed p)

/-- The pending fault `g` of source code `i` comes next: no other is of a higher class, nor of the same class and an earlier
source (R153). -/
def FaultUnit.Next (f : FaultUnit) (i : Fin 7) (g : FaultRecord) : Prop :=
  f.waiting[i] = some g ∧ ∀ (j : Fin 7) (h : FaultRecord), f.waiting[j] = some h → j ≠ i →
    g.kind.rank < h.kind.rank ∨ (g.kind.rank = h.kind.rank ∧ i < j)

/-- The link's enable stands, so an exchange that ends returns it to Idle (R32, R61). -/
def State.LinkStays (s : State) : Prop := s.link.en = true ∧ s.link.offPending = false

/-- An exchange can go on: what it reads is sound, the controller is not Halted, and the link's enable stands. -/
def State.ExchangeRuns (s : State) : Prop := s.exchangeUnsound = none ∧ s.halted = false ∧ s.LinkStays

/-- The anchor awaits the reply to an exchange of kind `x` with a station, and a head notice has met its window (R37). -/
def State.AnchorHears (s : State) (x : XKind) : Prop :=
  s.line.role = .anchor ∧ s.link.state = .awaiting ∧ s.link.x.met = true ∧ s.link.x.kind = x ∧
    s.link.x.station ≠ 0 ∧ s.link.x.station ≠ 127

/-- A member awaits the reply to the message `m`, in slot `k`, that it has sent (R57). -/
def State.MemberAwaits (s : State) (k : Fin 2) (m : Message) : Prop :=
  s.line.role = .member ∧ s.link.state = .awaiting ∧ s.link.x.kind = .member ∧ s.link.x.slot = some k ∧
    s.slot k = some m

/-- The slot holds a Ready message, with snapshot `n` whose Err is 0, of a Running ring. -/
def State.ReadyIn (s : State) (m : Message) (n : Snapshot) : Prop :=
  m.snap = some n ∧ n.e.err = false ∧ m.phase = .ready ∧ (s.ring m.ring).state = .running

/-- A command written now is alone: the controller is awake and nothing waits. -/
def State.CommandFree (s : State) : Prop :=
  s.awake = true ∧ s.NothingWaits ∧ s.cmd.head = .fresh

/-- FRX consumes the characters of a run, one event each (R26). -/
def State.feed (s : State) (l : List TxChar) : State := l.foldl (fun t c => t.frxChar c.byte c.tag) s

/-- The on-chip buffers hold no more than they have places for (R80, R122, R144). -/
def State.BuffersFit (s : State) : Prop :=
  s.cmd.queue.length ≤ Config.commandDepth ∧ s.rxp.buffers.length ≤ Config.rxBuffers ∧
    s.map.cache.length ≤ Config.cacheEntries

/-- The configuration registers hold only values that a write can store (R2, R70, R77, R99, R118, R131). -/
def State.ConfigLegal (s : State) : Prop :=
  4 ≤ s.line.div.toNat ∧ s.poll.len.toNat ≤ 32 ∧ s.map.len.toNat ≤ 4096 ∧ s.map.base &&& 7 = 0 ∧
    (∀ n : Fin 4, 2 ≤ (s.ring n).size.toNat ∧ (s.ring n).size.toNat ≤ 8 ∧ (s.ring n).base &&& 15 = 0) ∧
    2 ≤ s.rxp.size.toNat ∧ s.rxp.size.toNat ≤ 8 ∧ s.rxp.base &&& 15 = 0 ∧
    4 ≤ s.cq.size.toNat ∧ s.cq.size.toNat ≤ 10 ∧ s.cq.base &&& 15 = 0

/-- Two states hold the same configuration: LDIV, LCFG, LTIME, LLIM, the Poll List, STNSEL, the listen slots' addresses and
enables, the map's and every ring's and queue's place and size, CQMOD, GCTL.ICHK, INTEN and every station's Accept (R165). -/
def State.SameConfig (s t : State) : Prop :=
  t.line = s.line ∧ t.poll.entries = s.poll.entries ∧ t.poll.len = s.poll.len ∧ t.stn.sel = s.stn.sel ∧
    (∀ k : Fin 4, (t.lsn k).address = (s.lsn k).address ∧ (t.lsn k).enabled = (s.lsn k).enabled) ∧
    t.map.base = s.map.base ∧ t.map.len = s.map.len ∧
    (∀ n : Fin 4, (t.ring n).base = (s.ring n).base ∧ (t.ring n).size = (s.ring n).size) ∧
    t.rxp.base = s.rxp.base ∧ t.rxp.size = s.rxp.size ∧
    t.cq.base = s.cq.base ∧ t.cq.size = s.cq.size ∧ t.cq.count = s.cq.count ∧ t.cq.delay = s.cq.delay ∧
    t.glb.ichk = s.glb.ichk ∧ t.glb.inten = s.glb.inten ∧
    (∀ a : LineAddr, a ≠ 0 → a ≠ 127 → (t.station a).accept = (s.station a).accept)

/-- Every index lies in its ring or queue (R100, R119, R132). -/
def State.IndicesFit (s : State) : Prop :=
  (∀ n : Fin 4, (s.ring n).prod.toNat < sizeOf2 (s.ring n).size ∧ (s.ring n).cons.toNat < sizeOf2 (s.ring n).size) ∧
    s.rxp.prod.toNat < sizeOf2 s.rxp.size ∧ s.rxp.cons.toNat < sizeOf2 s.rxp.size ∧
    s.cq.head.toNat < sizeOf2 s.cq.size ∧ s.cq.tail.toNat < sizeOf2 s.cq.size

/-- While the controller does not work (held in reset, Halted or in Doze) LDE is low and the receiver inactive (R1, R5). -/
def State.LineReleased (s : State) : Prop := s.awake = false → s.lde = false ∧ s.rx.active = false

/-- Records 0 and 127 of the Station Table are all zeros (R62). -/
def State.RecordsReserved (s : State) : Prop := s.station 0 = reservedRecord ∧ s.station 127 = reservedRecord

end Sys2Proof.Machine
end

