-- ==== Sys2Proof/Certificates/Slice0/Obligations.lean ====
section
/-! DEFINITION. The statements for the provers. In each, `s.due` is the state after the starts that are already due when the
command comes (log 1), and `settle` is the end of the event, at which QUIET OK entries leave, the command queue executes and a
blocking episode may begin (R110, R138, R146). -/

open Sys2Proof Sys2Proof.Machine

/-! ## The step -/

/-- The command at the front of the queue runs on the rest; an empty queue lets one bit time pass, which changes nothing
while the controller is held, nor while it is Halted or in Doze, no disturbance strikes and no wake detector counts a run (logs
2, 9 and 18; R143, R161, R163, R168, R170). -/
def Obligations.StepRunsFrontCommand : Prop :=
  (∀ (c : Instr) (rest : List Instr) (s : State), step (s.setPending (c :: rest)) = exec c (s.setPending rest)) ∧
    (∀ s : State, s.pending = [] → step s = .next s.tick) ∧
    (∀ s : State, s.pending = [] → s.held = true → step s = .next s) ∧
    (∀ s : State, s.pending = [] → s.upsets = [] → s.awake = false →
      (s.watching = false ∨ ∀ n : Nat, s.wakeDet ≠ .counting n) → step s = .next s)

/-- Held, Halted or in Doze, no row that happens inside the controller has an effect, but that a wake detector which watches
takes a falling edge and the end of a low run (R161, R163, R168, R170). Every step keeps LDE low and the receiver inactive
there (R1, R5); that Doze waits for LDE to fall is the model's reading (log 17). -/
def Obligations.InternalRowsNeedWorkingController : Prop :=
  (∀ (c : Instr) (s : State), s.awake = false → c.internal = true →
    (s.watching = true → c ≠ .fallingEdge ∧ c ≠ .breakRunEnd) → exec c s = .next s) ∧
  ∀ s t : State, s.LineReleased → step s = .next t → t.LineReleased

/-- While held in reset every register write is ignored (R163). In Halt every register write is ignored but those of R162,
and the completion of a transaction that was in flight is not acted on (R161). -/
def Obligations.HeldAndHaltIgnoreWrites : Prop :=
  (∀ (c : Instr) (s : State), s.held = true → c.setsHold = false → c.completesDma = false → c.readsRegister = false →
    exec c s = .next s) ∧
  (∀ (c : Instr) (s : State), s.halted = true → c.setsHold = false → c.completesDma = false → c.readsRegister = false →
    c.openInHalt = false → exec c s = .next s) ∧
  (∀ (w : AccessWidth) (off : BitVec 12) (v : Word) (s : State), s.halted = true →
    (regAt off).any Reg.openInHalt = false → exec (.registerWrite w off v) s = .next s) ∧
  (∀ (c : Instr) (s : State), s.halted = true → c.completesDma = true → ∃ b : Bus, exec c s = .next (s.setBus b))

/-- What the starts and the end of an event leave alone: where nothing is due the state before a command is the state itself,
and where nothing waits the end of an event changes nothing (log 1). -/
def Obligations.QuietEventsChangeNothing : Prop :=
  (∀ s : State, s.cq.holding = [] → s.rxp.canDrain = false → (∀ n : Fin 4, s.stageable n = false) →
    s.glb.power ≠ .dozePending →
    (s.decides = false ∨
      (s.cmd.queue = [] ∧ s.slot 0 = none ∧ s.slot 1 = none ∧ s.link.pollen = false)) → s.due = s) ∧
  (∀ s : State, s.NothingWaits → s.settle = s) ∧
  (∀ s : State, s.halted = true → s.due = s ∧ s.settle = s)

/-- Frame: no command but a write of a configuration register, a power-on and a hard reset changes any configuration
register, GCTL.ICHK, INTEN and the Accept fields among them; a soft reset keeps them all (R165). -/
def Obligations.ConfigurationFrame : Prop :=
  ∀ (c : Instr) (s t : State), c.configures = false → exec c s = .next t → s.SameConfig t

/-! ## Resets and power -/

/-- What every register reads right after reset (R165, R175, chapter 13), and the station records (R62). -/
def Obligations.ResetRegisterValues : Prop :=
  (∀ off : BitVec 12, State.reset.hostRead .word off =
    if off = 0x000 then 0x00240001 else if off = 0x004 then 4 else if off = 0x018 then 1
    else if off = 0x020 then 104 else if off = 0x028 then 0x00400004 else if off = 0x02C then 0x00000403
    else if off = 0x144 ∨ off = 0x164 ∨ off = 0x184 ∨ off = 0x1A4 ∨ off = 0x1C4 then 2
    else if off = 0x1E4 then 4 else if off = 0x1EC then 0x00010000 else 0) ∧
  (∀ a : LineAddr, a ≠ 0 → a ≠ 127 → State.reset.station a =
    { presence := .unknown, accept := true, outSeq := false, inSeq := none, resyncNeeded := true, missCount := 0,
      errCount := 0 })

/-- Power-on and hard reset give every item its reset value, hold the controller, keep HALTCAUSE only at a hard reset, and
leave the transactions in flight to complete (R163 to R165). The end of a hold changes nothing but the hold; that the two
holds end separately (log 21) and that the model's own fields are kept (log 30) are the model's choices. -/
def Obligations.FullResetsGiveResetValues : Prop :=
  (∀ s : State, s.held = true →
    exec (.resetHoldEnd .powerOn) s = .next (s.setGlb { s.glb with porHeld := false }) ∧
    exec (.resetHoldEnd .nReset) s = .next (s.setGlb { s.glb with nrstHeld := false })) ∧
  ∀ s : State,
    exec .powerOnReset s = .next { State.reset with
      pending := s.due.pending, upsets := s.due.upsets, readData := s.due.readData, freeIndex := s.due.freeIndex,
      glb := { State.reset.glb with porHeld := true, nrstHeld := s.due.glb.nrstHeld },
      bus := { afterReset := s.due.bus.afterReset ++ s.due.bus.abandoned ++ s.due.inFlight, abandoned := [] } } ∧
    exec .hardReset s = .next { State.reset with
      pending := s.due.pending, upsets := s.due.upsets, readData := s.due.readData, freeIndex := s.due.freeIndex,
      glb := { State.reset.glb with
        haltCause := s.due.glb.haltCause, porHeld := s.due.glb.porHeld, nrstHeld := true },
      bus := { afterReset := s.due.bus.afterReset ++ s.due.bus.abandoned ++ s.due.inFlight, abandoned := [] } }

/-- A soft reset keeps configuration, the counters and HALTCAUSE, in Halt too (R162, R165), and gives operating state its
reset value (R32, R117, R130, R143, R150, R152). That a struck record or slot keeps its Accept, Address and Enabled and is
sound again is the model's choice (R162, log 47). -/
def Obligations.SoftResetKeepsConfiguration : Prop :=
  ∀ s : State, s.due.held = false → ∃ t : State, exec .softReset s = .next t ∧
    t.line = s.due.line ∧ t.counters = s.due.counters ∧ t.glb.ichk = s.due.glb.ichk ∧
    t.glb.inten = s.due.glb.inten ∧ t.glb.haltCause = s.due.glb.haltCause ∧
    t.map.base = s.due.map.base ∧ t.map.len = s.due.map.len ∧
    (∀ n : Fin 4, (t.ring n).base = (s.due.ring n).base ∧ (t.ring n).size = (s.due.ring n).size ∧
      (t.ring n).prod = 0 ∧ (t.ring n).cons = 0 ∧ (t.ring n).state = .stopped) ∧
    t.rxp = { base := s.due.rxp.base, size := s.due.rxp.size } ∧
    t.cq = { base := s.due.cq.base, size := s.due.cq.size, count := s.due.cq.count, delay := s.due.cq.delay } ∧
    t.poll = { entries := s.due.poll.entries, len := s.due.poll.len } ∧ t.stn.sel = s.due.stn.sel ∧
    (∀ k : Fin 4, t.lsn k = { address := (s.due.lsn k).address, enabled := (s.due.lsn k).enabled }) ∧
    (∀ a : LineAddr, a ≠ 0 → a ≠ 127 → t.station a = { accept := (s.due.station a).accept }) ∧
    t.stn.changed = 0 ∧ t.link = {} ∧ t.tx = {} ∧ t.rx = {} ∧ t.frx = {} ∧ t.map.cache = [] ∧ t.map.walk = none ∧
    t.wakeDet = .armed ∧ (∀ k : Fin 2, t.slot k = none) ∧ t.cmd = {} ∧ t.flt = {} ∧ t.glb.power = .run ∧ t.glb.intstat = 0 ∧
    t.glb.lockWr = false ∧ t.glb.relErr = false

/-- A Doze request is taken: Doze at once where the controller is quiet (the six conditions of R167, and LDE low, which is the
model's reading of R1: log 17), else Doze-Pending; a request repeated changes
nothing but ICHK (R92, R166, R167). A write of DOZE = 0 cancels the request or wakes the controller; in Run it stores only
ICHK (R92, R166, R169). -/
def Obligations.DozeRequestAndCancel : Prop :=
  ∀ (s : State) (ichk : Bool), s.due.live = true →
    (s.due.glb.power = .run → s.due.quiet = true → ∃ t : State, exec (.dozeRequest ichk) s = .next t ∧
      t.glb = { s.due.glb with ichk := ichk, power := .doze } ∧ t.rx.active = false ∧ t.link = s.due.link ∧
      t.rings = s.due.rings ∧ t.slots = s.due.slots ∧ t.cq = s.due.cq ∧ t.counters = s.due.counters) ∧
    (s.due.glb.power = .run → s.due.quiet = false →
      exec (.dozeRequest ichk) s =
        .next (s.due.setGlb { s.due.glb with ichk := ichk, power := .dozePending }).settle) ∧
    (s.due.glb.power ≠ .run →
      exec (.dozeRequest ichk) s = .next (s.due.setGlb { s.due.glb with ichk := ichk }).settle) ∧
    (s.due.glb.power = .dozePending →
      exec (.dozeCancel ichk) s = .next (s.due.setGlb { s.due.glb with ichk := ichk, power := .run }).settle) ∧
    (s.due.glb.power = .run →
      exec (.dozeCancel ichk) s = .next (s.due.setGlb { s.due.glb with ichk := ichk }).settle) ∧
    (s.due.glb.power = .doze → s.due.wake.glb.power = .run ∧
      exec (.dozeCancel ichk) s = .next (s.due.wake.setGlb { s.due.wake.glb with ichk := ichk }).settle)

/-- Doze is entered where a request is pending, the six conditions of R167 hold and LDE is low, and not where one of them fails
(R1, R167, R168). That Doze waits for LDE, which a character cut by a detected break can hold high, is the model's reading of
R1 (log 17). -/
def Obligations.DozeEntered : Prop :=
  ∀ s : State, s.held = false →
    (s.glb.power = .dozePending → s.anySlot = false → s.rxp.buffers = [] → s.cq.holding = [] → s.cmd.queue = [] →
      (s.link.state = .idle ∨ s.link.state = .disabled) →
      (s.line.role = .member ∨ s.link.pollen = false ∨ s.link.en = false) → s.lde = false →
      ∃ t : State, exec .dozeEntry s = .next t ∧ t.glb = { s.glb with power := .doze } ∧ t.rx.active = false ∧
        t.lde = false ∧ t.link = s.link ∧ t.rings = s.rings ∧ t.cq = s.cq ∧ t.stn = s.stn ∧
        t.counters = s.counters ∧ t.tx = s.tx) ∧
    (s.lde = true ∨ s.glb.power ≠ .dozePending ∨ s.anySlot = true ∨ s.rxp.buffers ≠ [] ∨ s.cq.holding ≠ [] ∨ s.cmd.queue ≠ [] ∨
        (s.link.state ≠ .idle ∧ s.link.state ≠ .disabled) ∨
        (s.line.role = .anchor ∧ s.link.pollen = true ∧ s.link.en = true) → exec .dozeEntry s = .next s)

/-- The first two steps of a wake: Run, the receiver as R5 says, and Idle where LINKCTL.EN was stored in Doze (R168, R169). -/
def Obligations.WakeReturnsToRun : Prop :=
  ∀ s : State, s.held = false → s.glb.power = .doze →
    s.wake.glb = { s.glb with power := .run } ∧
    s.wake.rx.active = (s.link.en || s.tx.phase != .off) ∧
    s.wake.link.state = (if s.link.en = true ∧ s.link.state = .disabled then .idle else s.link.state) ∧
    (s.link.en = false ∨ s.link.state ≠ .disabled → s.wake.link = s.link) ∧
    s.wake.counters = s.counters ∧ s.wake.stn = s.stn ∧ s.wake.listen = s.listen

/-- The wake detector wakes a dozing member at an addressed head character; any other character changes nothing but that a
sound stop bit ends a run. A falling edge begins a run, a high bit time ends it, each bit time between them adds to it, and
the fourteenth wakes the controller with a break; below it the row WAKE_BREAK does nothing (R10, R170). The break is then
handled as a detected one, with BREAKS and INTSTAT.BRK but without FRAMING, and with BRKSYNC it resets the sequence state of
every Enabled slot (R11, R59, R169, R170). That a bit time in a run counts as low, that WAKE_BREAK itself ends the fourteenth
one and that a judged stop bit ends a run are the model's choices (log 18), and so is that the second step of the wake comes
before the break (log 40). -/
def Obligations.WakeDetectorWakes : Prop :=
  ∀ (s : State) (c : RxChar), s.due.watching = true →
    (s.due.wakesOn c = true → exec (.wakeHeadCharacter c) s = .next s.due.wake.settle ∧
      s.due.wake.glb.power = .run) ∧
    (s.due.wakesOn c = false → exec (.wakeHeadCharacter c) s = .next
      (if c.start = false ∧ c.stop = true then s.due.setWakeDet s.due.wakeDet.runEnd else s.due).settle) ∧
    ((s.due.wakeDet = .armed → exec .fallingEdge s = .next (s.due.setWakeDet (.counting 0)).settle) ∧
      (∀ n : Nat, s.due.wakeDet = .counting n →
        exec .fallingEdge s = .next s.due.settle ∧
        exec .breakRunEnd s = .next (s.due.setWakeDet .armed).settle ∧
        (s.pending = [] → s.upsets = [] → s.glb.power = .doze →
          (n < 13 → step s = .next (s.setWakeDet (.counting (n + 1)))) ∧
          (13 ≤ n → step s = .next s.wakeBreak.settle))) ∧
      (s.due.wakeDet.low ≠ .counting 14 → exec .wakeBreak s = .next s.due.settle)) ∧
    (∀ n : Nat, s.due.wakeDet = .counting n → 13 ≤ n →
      exec .wakeBreak s = .next s.due.wakeBreak.settle ∧
      ∃ u : State, exec .wakeBreak s = .next u.settle ∧ (u.glb.power = .run ∨ u.halted = true) ∧
        u.frx.state = .hunt ∧ u.counters.breaks = satInc s.due.counters.breaks ∧
        u.counters.framing = s.due.counters.framing ∧ u.glb.intstat &&& IrqCause.brk.mask = IrqCause.brk.mask) ∧
    (∀ n : Nat, s.due.wakeDet = .counting n → 13 ≤ n → s.due.link.state = .idle ∨ s.due.link.state = .disabled →
      (s.due.line.brkSync = true → s.due.listenUnsound = false) →
      ∃ u : State, exec .wakeBreak s = .next u.settle ∧ u.glb.power = .run ∧ u.frx.state = .hunt ∧
        u.rx.brk = .rearming ∧ u.wakeDet = .armed ∧ u.link.state = .idle ∧ u.slots = s.due.slots ∧
        u.rxp = s.due.rxp ∧ u.counters.breaks = satInc s.due.counters.breaks ∧
        u.counters.framing = s.due.counters.framing ∧
        ∀ k : Fin 4, u.lsn k =
          if s.due.line.brkSync = true ∧ (s.due.lsn k).enabled = true then (s.due.lsn k).synced else s.due.lsn k)

/-! ## The drop line -/

/-- A judged character with a sound start bit counts NOISE once if it is good and noisy, and FRAMING alone if its stop bit
reads 0 (R6, R8). A good one whose edge was seen is delivered to FRX with its byte and its tag bit; that it ends a run of the
break detector is the model's choice (log 18). An echo counts nothing and reaches no frame; the first unsound one is
contention (R15). -/
def Obligations.CharacterJudged : Prop :=
  ∀ (s : State) (c : RxChar), s.due.awake = true → s.due.rx.active = true →
    (s.due.tx.phase = .off → c.start = false → ∃ u : State, exec (.characterReceived c) s = .next u.settle ∧
      u.counters.noise = (if c.stop && c.noisy then satInc s.due.counters.noise else s.due.counters.noise) ∧
      u.counters.framing = (if c.stop then s.due.counters.framing else satInc s.due.counters.framing) ∧
      (c.stop = false → u.frx.state = .hunt)) ∧
    (s.due.tx.phase = .off → c.start = false → c.stop = true → s.due.rx.inChar = true →
      exec (.characterReceived c) s =
        .next ((((if c.noisy = true then s.due.bump .noise else s.due).setRx { s.due.rx with
          inChar := false, gap := none, idle := none, stopEnd := true,
          brk := s.due.rx.brk.runEnd }).frxChar c.data c.tag).unlessHalted State.windowAfterChar).settle) ∧
    (s.due.tx.phase = .frame → ∃ u : State, exec (.characterReceived c) s = .next u.settle ∧
      u.counters = s.due.counters ∧ u.frx = s.due.frx ∧ u.link = s.due.link ∧
      u.tx.contention =
        (s.due.tx.contention || !((s.due.tx.chars[s.due.tx.echoed]?).all fun t => t.echoSound c)))

/-- Falling edges, idle reference points and the detector's own returns to Armed (R6, R10, R12, R14). -/
def Obligations.EdgesAndIdlePoints : Prop :=
  ∀ s : State, s.due.awake = true → s.due.rx.active = true → s.due.tx.phase = .off →
    (s.due.rx.inChar = false → ∃ u : State, exec .fallingEdge s = .next u.settle ∧ u.rx.idle = none ∧
      u.rx.inChar = true ∧ u.rx.brk = s.due.rx.brk.edge ∧ u.counters = s.due.counters ∧ u.frx = s.due.frx ∧
      u.link.state = s.due.link.state) ∧
    (s.due.rx.inChar = true →
      exec .fallingEdge s = .next (s.due.setRx { s.due.rx with brk := s.due.rx.brk.edge }).settle) ∧
    (s.due.rx.stopEnd = true → exec .idleReferencePoint s = .next (s.due.setRx { s.due.rx with
      stopEnd := false, idle := some 0, gap := if s.due.frx.state = .hunt then none else some 0 }).settle) ∧
    (s.due.rx.stopEnd = false → (s.due.rx.awaitHigh = true ∨ s.due.rx.inChar = true) →
      exec .idleReferencePoint s =
        .next (s.due.setRx { s.due.rx with awaitHigh := false, idle := some 0 }).settle) ∧
    (s.due.rx.brk = .rearming →
      exec .breakDetectorRearm s = .next (s.due.setRx { s.due.rx with brk := .armed }).settle) ∧
    (∀ n : Nat, s.due.rx.brk = .counting n →
      exec .breakRunEnd s = .next (s.due.setRx { s.due.rx with brk := .armed }).settle)

/-- A false start delivers and counts nothing and sets the idle reference point; only a gap limit that has passed meanwhile
truncates the frame (R7, R14). -/
def Obligations.FalseStartIgnored : Prop :=
  ∀ s : State, s.due.awake = true → s.due.rx.active = true → s.due.tx.phase = .off → s.due.rx.inChar = true →
    s.due.awaitingReply = false →
    (s.due.rx.gap ≠ some 3 ∨ s.due.frx.state = .hunt →
      exec .falseStart s =
        .next (s.due.setRx { s.due.rx with inChar := false, idle := some (s.due.rx.idle.getD 0) }).settle) ∧
    (s.due.rx.gap = some 3 → s.due.frx.state ≠ .hunt → ∃ u : State, exec .falseStart s = .next u.settle ∧
      u.frx.state = .hunt ∧ u.counters.gap =
        (if s.due.frx.counted && s.due.frx.state.collecting then satInc s.due.counters.gap else s.due.counters.gap))

/-- The gap limit truncates the frame in progress and counts GAP for a counted frame alone (R14). -/
def Obligations.GapLimitTruncates : Prop :=
  ∀ s : State, s.due.awake = true → s.due.rx.active = true → s.due.rx.stopEnd = false →
    s.due.rx.gap.isSome = true → s.due.rx.inChar = false → s.due.frx.state ≠ .hunt →
    ∃ u : State, exec .gapLimitTruncation s = .next u.settle ∧ u.frx.state = .hunt ∧
      u.counters.gap =
        (if s.due.frx.counted && s.due.frx.state.collecting then satInc s.due.counters.gap
          else s.due.counters.gap) ∧
      u.counters.noise = s.due.counters.noise ∧ u.counters.framing = s.due.counters.framing ∧
      u.counters.check = s.due.counters.check ∧ u.counters.format = s.due.counters.format

/-- A break, detected where the bit time that ends makes the detector's run 14, counts BREAKS, sets INTSTAT.BRK, forces FRX to
Hunt without CHECK, FORMAT or GAP, and ends what the link was doing; a frame being sent finishes its character (R10, R11, R36,
R53, R59). At a member BRKSYNC resets every Enabled slot, and an attempt fails with BREAK and in its last with NO_REPLY (R57,
R58, R59). That the row itself ends the fourteenth bit time is the model's choice (log 18), and so is the address of the Err write
(log 46). -/
def Obligations.BreakDetectedActs : Prop :=
  (∀ (s : State) (n : Nat), s.due.awake = true → s.due.rx.active = true → s.due.tx.phase ≠ .brk →
    s.due.rx.brk = .counting n → 13 ≤ n →
    ∃ u : State, exec .breakDetected s = .next u.settle ∧
      u.counters.breaks = satInc s.due.counters.breaks ∧ u.glb.intstat &&& IrqCause.brk.mask = IrqCause.brk.mask ∧
      u.frx.state = .hunt ∧ u.counters.check = s.due.counters.check ∧ u.counters.format = s.due.counters.format ∧
      u.counters.gap = s.due.counters.gap ∧ u.counters.contention = s.due.counters.contention ∧
      (u.halted = true ∨
        (u.link.state ≠ .guard ∧ u.link.state ≠ .sending ∧ u.link.state ≠ .awaiting ∧
          (s.due.tx.phase = .frame → u.tx.afterBreak = true)))) ∧
  (∀ s : State, s.due.awake = true → s.due.rx.brk.low ≠ .counting 14 →
    exec .breakDetected s = .next s.due.settle) ∧
  (∀ (s : State) (n : Nat), s.due.awake = true → s.due.rx.active = true → s.due.tx.phase ≠ .brk →
    s.due.rx.brk = .counting n → 13 ≤ n → s.due.line.role = .member →
    (s.due.line.brkSync = true → s.due.listenUnsound = false) →
    (s.due.link.state = .idle → ∃ u : State, exec .breakDetected s = .next u.settle ∧ u.link = s.due.link ∧
      u.slots = s.due.slots ∧ u.stn = s.due.stn ∧ ∀ j : Fin 4, u.lsn j =
        if s.due.line.brkSync = true ∧ (s.due.lsn j).enabled = true then (s.due.lsn j).synced else s.due.lsn j) ∧
    (∀ (k : Fin 2) (m : Message) (i : Snapshot), s.due.MemberAwaits k m → s.due.ReadyIn m i → s.due.ExchangeRuns →
      s.due.line.brkSync = true →
      let m1 : Message := { m with attempts := m.attempts + 1, lastCause := .brk }
      ∃ u : State, exec .breakDetected s = .next u.settle ∧ u.link.state = .idle ∧
        (m.attempts ≠ i.e.retry.toNat → u.slot k = some m1) ∧
        (m.attempts = i.e.retry.toNat → u.slot k = some
          { m1 with code := .noReply, phase := .finishing .errWrite, txn := i.addr + 7 }) ∧
        ∀ j : Fin 4, (s.due.lsn j).enabled = true → u.lsn j = (s.due.lsn j).synced))

/-! ## Frames -/

/-- A frame built as R18 and R24 say, received character by character from Hunt, is delivered once with the fields it was
built from (R22, R25, R26, R30, R31). It says nothing of a frame whose head cancels a member's pending reply (R36). -/
def Obligations.BuiltFramesAreDelivered : Prop :=
  ∀ (s : State) (dest src : LineAddr) (k : Kind) (q : Bool) (d : BitVec 3) (port : BitVec 4) (payload : List Byte),
    s.frx.state = .hunt → s.halted = false → ¬(s.link.state = .guard ∧ s.link.x.kind = .member) →
    s.addressed dest = true → s.sourceValid src = true → k.permits d = true → (k.seqFixed = true → q = false) →
    payload.length ≤ 120 → (k ≠ .data → payload = [] ∧ port = 0) →
    ∃ r : Frx, r.state = .hunt ∧
      s.feed (frameChars dest src k q d port payload) =
        (((s.headNotice true).setFrx r).setRx { s.rx with gap := none }).validFrame
          { dest := dest, src := src, kind := k, seq := q, detail := d, port := port, payload := payload }

/-- The shape of every frame the controller sends (R18, R24). -/
def Obligations.SentFrameShape : Prop :=
  ∀ (dest src : LineAddr) (k : Kind) (q : Bool) (d : BitVec 3) (port : BitVec 4) (payload : List Byte),
    (frameChars dest src k q d port payload).length = (if k = .data then 7 + payload.length else 5) ∧
    ∃ rest : List TxChar, frameChars dest src k q d port payload = ⟨0#1 ++ dest, true⟩ :: rest ∧
      ∀ c ∈ rest, c.tag = false

/-- A header character that shows a format violation counts FORMAT once and sends FRX to Hunt; any other counts nothing and
is kept (R23, R26). -/
def Obligations.FormatViolationsFound : Prop :=
  ∀ (s : State) (f : HeaderField) (b : Byte), s.frx.state = .header f → s.frx.counted = true →
    let bad : Prop :=
      match f with
      | .source => b.msb = true
      | .control =>
        match Kind.ofCode (b.extractLsb' 0 4) with
        | none => True
        | some k => k.permits (b.extractLsb' 5 3) = false ∨ (k.seqFixed = true ∧ b.getLsbD 4 = true)
      | .port => b.extractLsb' 4 4 ≠ 0
      | .length => 120 < b.toNat
    (bad → (s.frxChar b false).counters.format = satInc s.counters.format ∧ (s.frxChar b false).frx.state = .hunt) ∧
    (¬bad → (s.frxChar b false).counters = s.counters ∧ (s.frxChar b false).frx.state ≠ .hunt)

/-! ## Exchanges -/

/-- ACK(b) to an outbound attempt: OutSeq flips, the reply mark is applied, Attempts is incremented, the message completes
OK and its entry joins the holding list, and the link is Idle (R45, R63, R109). ACK(b) to a member's DATA does the same with
the slot's OutSeq, and the frame, dispatched after it, is counted STRAY (R54, R57; log 12). -/
def Obligations.OutboundAcknowledged : Prop :=
  (∀ (s : State) (f : Frame) (k : Fin 2) (m : Message),
    s.line.role = .anchor → s.link.state = .awaiting → s.link.x.met = true → s.link.x.kind = .outbound →
    s.link.x.slot = some k → s.slot k = some m → s.exchangeUnsound = none → s.halted = false → s.LinkStays →
    s.link.x.station ≠ 0 → s.link.x.station ≠ 127 →
    f.src = s.link.x.station → f.kind = .ack → f.seq = s.link.x.seq →
    let m1 : Message := { m with attempts := m.attempts + 1, code := .ok }
    (s.validFrame f).station s.link.x.station =
        { s.station s.link.x.station with
          outSeq := !(s.station s.link.x.station).outSeq, missCount := 0, presence := .active } ∧
    (s.validFrame f).slot k = some { m1 with phase := .finishing .held } ∧
    (s.validFrame f).cq.holding = s.cq.holding ++ [m1.entry k] ∧
    (s.validFrame f).link.state = .idle ∧ (s.validFrame f).counters = s.counters) ∧
  (∀ (s : State) (f : Frame) (k : Fin 2) (m : Message), s.MemberAwaits k m → s.ExchangeRuns →
    f.dest ≠ 127 → s.owner f.dest = some s.link.x.lslot → f.kind = .ack → f.seq = s.link.x.seq →
    let m1 : Message := { m with attempts := m.attempts + 1, code := .ok }
    (s.validFrame f).lsn s.link.x.lslot =
        { s.lsn s.link.x.lslot with outSeq := !(s.lsn s.link.x.lslot).outSeq } ∧
    (s.validFrame f).slot k = some { m1 with phase := .finishing .held } ∧
    (s.validFrame f).cq.holding = s.cq.holding ++ [m1.entry k] ∧
    (s.validFrame f).link.state = .idle ∧ (s.validFrame f).counters.stray = satInc s.counters.stray)

/-- NAK(REFUSED) and NAK(FULL) to an outbound attempt: REFUSED completes the message with an Err write; FULL counts
FullCount alone, and completes FULL_LIMIT when FullCount already held FullLimit (R45, R89). A NAK to a member's DATA does the
same and is then counted STRAY (R54, R57; log 12). What is no reply: a frame that meets no open window is STRAY and nothing
else (R53); one from another station, a POLL and a SYNC are STRAY and resume the window; any other frame from the station is
STRAY and fails the attempt with BAD_REPLY, a failure mark and no miss mark (R44, R46). The address of the Err write is the
model's choice (log 46). -/
def Obligations.OutboundNaks : Prop :=
  (∀ (s : State) (f : Frame) (k : Fin 2) (m : Message) (n : Snapshot),
    s.line.role = .anchor → s.link.state = .awaiting → s.link.x.met = true → s.link.x.kind = .outbound →
    s.link.x.slot = some k → s.slot k = some m → m.snap = some n → n.e.err = false → m.phase = .ready →
    s.exchangeUnsound = none → s.halted = false → s.LinkStays → f.src = s.link.x.station → f.kind = .nak →
    let t : State := s.validFrame f
    let full : Message := { m with fullCount := satInc m.fullCount }
    t.link.state = .idle ∧ t.cq.holding.length ≤ s.cq.holding.length + 1 ∧
    (f.detail = detailRefused → t.slot k = some { m with
      attempts := m.attempts + 1, code := .refused, phase := .finishing .errWrite, txn := n.addr + 7 }) ∧
    (f.detail = detailFull → n.e.fullLimit ≠ 0 → m.fullCount = n.e.fullLimit →
      t.slot k = some { full with code := .fullLimit, phase := .finishing .errWrite, txn := n.addr + 7 }) ∧
    (f.detail = detailFull → (n.e.fullLimit = 0 ∨ m.fullCount ≠ n.e.fullLimit) →
      (s.ring m.ring).state = .running → t.slot k = some full)) ∧
  (∀ (s : State) (f : Frame) (k : Fin 2) (m : Message) (n : Snapshot), s.MemberAwaits k m → s.ReadyIn m n →
    s.ExchangeRuns → f.dest ≠ 127 → s.owner f.dest = some s.link.x.lslot → f.kind = .nak →
    let t : State := s.validFrame f
    let full : Message := { m with fullCount := satInc m.fullCount }
    t.link.state = .idle ∧ t.listen = s.listen ∧ t.counters.stray = satInc s.counters.stray ∧
    (f.detail = detailRefused → t.slot k = some { m with
      attempts := m.attempts + 1, code := .refused, phase := .finishing .errWrite, txn := n.addr + 7 }) ∧
    (f.detail = detailFull → n.e.fullLimit ≠ 0 → m.fullCount = n.e.fullLimit →
      t.slot k = some { full with code := .fullLimit, phase := .finishing .errWrite, txn := n.addr + 7 }) ∧
    (f.detail = detailFull → (n.e.fullLimit = 0 ∨ m.fullCount ≠ n.e.fullLimit) → t.slot k = some full)) ∧
  (∀ (s : State) (f : Frame), s.line.role = .anchor →
    ((s.awaitingReply && s.link.x.met) = false → s.validFrame f = s.bump .stray) ∧
    ((s.awaitingReply && s.link.x.met) = true →
      (f.src ≠ s.link.x.station ∨ f.kind = .poll ∨ f.kind = .sync) → s.link.x.passed = false →
      s.validFrame f = (s.bump .stray).setLink { s.link with x := { s.link.x with met := false } })) ∧
  (∀ (s : State) (f : Frame) (k : Fin 2) (m : Message) (n : Snapshot), s.AnchorHears .outbound → s.ExchangeRuns →
    s.link.x.slot = some k → s.slot k = some m → s.ReadyIn m n → m.attempts ≠ n.e.retry.toNat →
    s.link.x.beganSilent = false → f.src = s.link.x.station →
    (f.kind = .data ∨ f.kind = .none ∨ (f.kind = .ack ∧ f.seq ≠ s.link.x.seq)) →
    (s.validFrame f).slot k = some { m with attempts := m.attempts + 1, lastCause := .badReply } ∧
    (s.validFrame f).station s.link.x.station = { s.station s.link.x.station with
      errCount := satInc (s.station s.link.x.station).errCount } ∧
    (s.validFrame f).link.state = .idle ∧ (s.validFrame f).counters.stray = satInc s.counters.stray)

/-- An outbound attempt whose window expires: TIMEOUTS, the failure and miss marks, Attempts and LastCause; the last attempt
completes the message NO_REPLY with ResyncNeeded and an Err write (R37, R44, R46, R64, R65, R89). A poll's expiry applies the
same marks and touches no message (R48); the records are the anchor's alone (R62). A member's expiry counts TIMEOUTS and Attempts; the last attempt completes the
message NO_REPLY with the slot's ResyncWanted (R57, R58). The address of the Err write is the model's choice (log 46). -/
def Obligations.OutboundTimesOut : Prop :=
  (∀ (s : State) (k : Fin 2) (m : Message) (n : Snapshot), s.due.awake = true → s.due.line.role = .anchor →
    s.due.link.state = .awaiting → s.due.link.x.kind = .outbound → s.due.link.x.met = false → (s.due.rx.inChar && s.due.link.x.inTime) = false →
    s.due.exchangeUnsound = none → s.due.link.x.slot = some k → s.due.slot k = some m → m.snap = some n →
    n.e.err = false → m.phase = .ready → (s.due.ring m.ring).state = .running → s.due.LinkStays →
    s.due.link.x.station ≠ 0 → s.due.link.x.station ≠ 127 →
    let a : LineAddr := s.due.link.x.station
    let last : Prop := m.attempts = n.e.retry.toNat ∨ s.due.link.x.beganSilent = true
    let m1 : Message := { m with attempts := m.attempts + 1, lastCause := .timeout }
    ∃ u : State, exec .replyWindowExpiry s = .next u.settle ∧
      u.counters.timeouts = satInc s.due.counters.timeouts ∧ u.link.state = .idle ∧
      (u.station a).errCount = satInc (s.due.station a).errCount ∧
      (u.station a).missCount = satInc (s.due.station a).missCount ∧
      (¬last → u.slot k = some m1) ∧
      (last → (u.station a).resyncNeeded = true ∧
        u.slot k = some { m1 with code := .noReply, phase := .finishing .errWrite, txn := n.addr + 7 })) ∧
  (∀ s : State, s.due.awake = true → s.due.line.role = .anchor → s.due.link.state = .awaiting →
    s.due.link.x.kind = .poll → s.due.link.x.met = false → (s.due.rx.inChar && s.due.link.x.inTime) = false → s.due.ExchangeRuns →
    s.due.link.x.station ≠ 0 → s.due.link.x.station ≠ 127 →
    let a : LineAddr := s.due.link.x.station
    ∃ u : State, exec .replyWindowExpiry s = .next u.settle ∧
      u.counters.timeouts = satInc s.due.counters.timeouts ∧ u.link.state = .idle ∧ u.slots = s.due.slots ∧
      (u.station a).errCount = satInc (s.due.station a).errCount ∧
      (u.station a).missCount = satInc (s.due.station a).missCount) ∧
  (∀ (s : State) (k : Fin 2) (m : Message) (n : Snapshot), s.due.awake = true → s.due.MemberAwaits k m →
    s.due.ReadyIn m n → s.due.ExchangeRuns → s.due.link.x.met = false →
    (s.due.rx.inChar && s.due.link.x.inTime) = false →
    let m1 : Message := { m with attempts := m.attempts + 1, lastCause := .timeout }
    let l : Fin 4 := s.due.link.x.lslot
    ∃ u : State, exec .replyWindowExpiry s = .next u.settle ∧
      u.counters.timeouts = satInc s.due.counters.timeouts ∧ u.link.state = .idle ∧ u.stn = s.due.stn ∧
      (m.attempts ≠ n.e.retry.toNat → u.slot k = some m1 ∧ u.listen = s.due.listen) ∧
      (m.attempts = n.e.retry.toNat → u.lsn l = { s.due.lsn l with resyncWanted := true } ∧
        u.slot k = some { m1 with code := .noReply, phase := .finishing .errWrite, txn := n.addr + 7 }))

/-- The inbound decision of a member, in the order of R39; every reply waits in Guard with the persona's address (R39, R54).
The anchor takes the same decision for DATA that answers its poll, with the station's Accept and InSeq, and sends its own
reply; NONE ends the poll (R48, R49). A POLL is answered NONE(RESYNC WANTED), the persona's message where it has one, an
attempted one first and then the lowest class, or NONE (R55). A broadcast DATA restarts a member's anchor-lost timer, ends its
attempt with TIMEOUT, and is decided after both (R54, R57, R60); that the timer has restarted although the attempt's end then
halts the controller, and RXDROP has not counted, are the model's choices (logs 43 and 10). -/
def Obligations.InboundDecided : Prop :=
  (∀ (s : State) (k : Fin 4) (f : Frame), s.link.state = .idle →
    let t : State := s.memberData k f
    t.link.state = .guard ∧ t.link.x.kind = .member ∧ t.link.x.station = (s.lsn k).address ∧
    (s.rxp.en = false → t.link.x.out = { kind := .nak, detail := detailRefused } ∧ t.rxp = s.rxp ∧
      t.listen = s.listen ∧ t.counters = s.counters) ∧
    (s.rxp.en = true → (s.lsn k).inSeq = some f.seq → t.link.x.out = { kind := .ack, seq := f.seq } ∧
      t.rxp = s.rxp ∧ t.listen = s.listen ∧ t.counters.dup = satInc s.counters.dup) ∧
    (s.rxp.en = true → (s.lsn k).inSeq ≠ some f.seq → 2 ≤ s.rxp.buffers.length →
      t.link.x.out = { kind := .nak, detail := detailFull } ∧ t.rxp = s.rxp ∧ t.listen = s.listen ∧
      t.counters = s.counters) ∧
    (s.rxp.en = true → (s.lsn k).inSeq ≠ some f.seq → s.rxp.buffers.length < 2 →
      t.link.x.out = { kind := .ack, seq := f.seq } ∧ (t.lsn k).inSeq = some f.seq ∧ t.counters = s.counters ∧
      t.rxp.buffers = s.rxp.buffers ++
        [{ peer := 0, port := f.port, payload := f.payload, persona := k, bcast := false }])) ∧
  (∀ (s : State) (f : Frame), s.AnchorHears .poll → s.ExchangeRuns → f.src = s.link.x.station →
    let a : LineAddr := s.link.x.station
    let t : State := s.validFrame f
    let heard : Station := { s.station a with missCount := 0, presence := .active }
    (f.kind = .none → t.link.state = .idle ∧ t.slots = s.slots ∧ t.counters = s.counters ∧ t.station a =
      (if f.detail = detailResync then { heard with resyncNeeded := true } else heard)) ∧
    (f.kind = .data → t.link.state = .guard ∧ t.link.x.kind = .poll ∧ t.link.x.station = a ∧ t.link.x.tail = true ∧
      (s.rxp.en = false ∨ (s.station a).accept = false →
        t.link.x.out = { kind := .nak, detail := detailRefused } ∧ t.rxp = s.rxp ∧ t.station a = heard ∧
        t.counters = s.counters) ∧
      (s.rxp.en = true → (s.station a).accept = true → (s.station a).inSeq = some f.seq →
        t.link.x.out = { kind := .ack, seq := f.seq } ∧ t.rxp = s.rxp ∧ t.station a = heard ∧
        t.counters.dup = satInc s.counters.dup) ∧
      (s.rxp.en = true → (s.station a).accept = true → (s.station a).inSeq ≠ some f.seq →
        2 ≤ s.rxp.buffers.length → t.link.x.out = { kind := .nak, detail := detailFull } ∧ t.rxp = s.rxp ∧
        t.station a = heard ∧ t.counters = s.counters) ∧
      (s.rxp.en = true → (s.station a).accept = true → (s.station a).inSeq ≠ some f.seq →
        s.rxp.buffers.length < 2 → t.link.x.out = { kind := .ack, seq := f.seq } ∧
        t.station a = { heard with inSeq := some f.seq } ∧ t.rxp.buffers = s.rxp.buffers ++
          [{ peer := a, port := f.port, payload := f.payload, persona := 0, bcast := false }]))) ∧
  (∀ (s : State) (k : Fin 4) (f : Frame), f.kind = .poll → s.link.state = .idle → (s.lsn k).sound = true →
    let t : State := s.dispatch (some k) f
    ((s.lsn k).resyncWanted = true → t.link.state = .guard ∧ t.link.x.slot = none ∧
      t.link.x.out = { kind := .none, detail := detailResync }) ∧
    ((s.lsn k).resyncWanted = false → s.readyUnsound = false →
      (∀ j : Fin 2, s.pollPick k = some j → s.answers k j = true ∧ t.link.state = .guard ∧
        t.link.x.slot = some j ∧ t.link.x.out = { kind := .data, seq := (s.lsn k).outSeq } ∧
        ((∃ i : Fin 2, s.answers k i = true ∧ (s.slot i).any (·.attempted) = true) →
          (s.slot j).any (·.attempted) = true) ∧
        (∀ i : Fin 2, s.answers k i = true → (s.slot i).any (·.attempted) = (s.slot j).any (·.attempted) →
          ∀ m n : Message, s.slot j = some m → s.slot i = some n → m.ring.val ≤ n.ring.val)) ∧
      ((∃ i : Fin 2, s.answers k i = true) → ∃ j : Fin 2, s.pollPick k = some j) ∧
      ((∀ j : Fin 2, s.answers k j = false) → t.link.state = .guard ∧ t.link.x.slot = none ∧
        t.link.x.out = { kind := .none }))) ∧
  (∀ (s : State) (f : Frame), s.line.role = .member → f.dest = 127 → f.kind = .data →
    (s.link.state ≠ .awaiting → s.validFrame f = s.restartAnchor.broadcastData f) ∧
    (s.link.state = .awaiting → s.validFrame f =
      (s.restartAnchor.failExchange .timeout).unlessHalted fun u => u.broadcastData f))

/-- A valid broadcast DATA at a member is staged, marked broadcast, if RXCTL.EN is 1 and a buffer is free, and otherwise counted
in RXDROP; no reply is sent, no duplicate check is made and no slot's InSeq or OutSeq changes (R40). It says nothing of a frame
at whose event the controller halts. -/
def Obligations.BroadcastDataStaged : Prop :=
  ∀ (s : State) (f : Frame), s.line.role = .member → f.dest = 127 → f.kind = .data →
    let t : State := s.validFrame f
    t.halted = false →
    (∀ k : Fin 4, (t.lsn k).inSeq = (s.lsn k).inSeq ∧ (t.lsn k).outSeq = (s.lsn k).outSeq) ∧
    t.tx = s.tx ∧ (s.link.state ≠ .awaiting → t.link.state = s.link.state ∧ t.link.x = s.link.x) ∧
    (s.link.state = .awaiting → t.link.state = .idle ∨ t.link.state = .disabled) ∧
    t.counters.dup = s.counters.dup ∧
    (s.rxp.en = true → s.rxp.buffers.length < 2 → t.counters = s.counters ∧
      t.rxp = { s.rxp with buffers := s.rxp.buffers ++
        [{ peer := 0, port := f.port, payload := f.payload, persona := 0, bcast := true }] }) ∧
    (s.rxp.en = false ∨ 2 ≤ s.rxp.buffers.length → t.rxp = s.rxp ∧
      t.counters = { s.counters with rxdrop := satInc s.counters.rxdrop })

/-- A SYNC to a persona resets its slot and is answered ACK(0) from it; a SYNC to 127 resets every Enabled slot and is not
answered (R54, R56, R76). ACK(0) to the anchor's directed sync resets the station's sequence state, clears ResyncNeeded,
applies the reply mark and leaves a message it was sent for staged (R50, R63). -/
def Obligations.MemberSyncs : Prop :=
  (∀ (s : State) (f : Frame), f.kind = .sync →
    (∀ k : Fin 4, (s.lsn k).sound = true → s.link.state = .idle →
      (s.dispatch (some k) f).lsn k = { s.lsn k with outSeq := false, inSeq := none, resyncWanted := false } ∧
      (∀ j : Fin 4, j ≠ k → (s.dispatch (some k) f).lsn j = s.lsn j) ∧
      (s.dispatch (some k) f).link.state = .guard ∧
      (s.dispatch (some k) f).link.x.out = { kind := .ack, seq := false } ∧
      (s.dispatch (some k) f).link.x.station = (s.lsn k).address) ∧
    (s.listenUnsound = false → (s.dispatch none f).link = s.link ∧
      ∀ k : Fin 4, (s.dispatch none f).lsn k =
        if (s.lsn k).enabled = true then { s.lsn k with outSeq := false, inSeq := none, resyncWanted := false }
        else s.lsn k)) ∧
  (∀ (s : State) (f : Frame), s.AnchorHears .dsync → s.ExchangeRuns → f.src = s.link.x.station → f.kind = .ack →
    f.seq = false →
    (∀ (k : Fin 2) (m : Message), s.link.x.slot = some k → s.slot k = some m → (s.ring m.ring).state = .running) →
    (s.validFrame f).station s.link.x.station = { s.station s.link.x.station with
      outSeq := false, inSeq := none, resyncNeeded := false, missCount := 0, presence := .active } ∧
    (s.validFrame f).link.state = .idle ∧ (s.validFrame f).slots = s.slots ∧ (s.validFrame f).counters = s.counters)

/-- The station marks, and the notification of a presence change and of nothing else (R63, R64, R65, R67). A miss mark below
the effective MISSLIM, or on a SILENT station, increments MissCount alone (R64). -/
def Obligations.StationMarks : Prop :=
  ∀ (s : State) (a : LineAddr), a ≠ 0 → a ≠ 127 →
    (s.replyMark a).station a = { s.station a with missCount := 0, presence := .active } ∧
    (s.failureMark a).station a = { s.station a with errCount := satInc (s.station a).errCount } ∧
    (s.failureMark a).stn.changed = s.stn.changed ∧
    ((s.missMark a).station a).missCount = satInc (s.station a).missCount ∧
    (s.line.missEff ≤ (satInc (s.station a).missCount).toNat →
      ((s.missMark a).station a).presence = .silent ∧
      ((s.station a).presence ≠ .silent → ((s.missMark a).station a).resyncNeeded = true)) ∧
    ((satInc (s.station a).missCount).toNat < s.line.missEff ∨ (s.station a).presence = .silent →
      (s.missMark a).station a = { s.station a with missCount := satInc (s.station a).missCount } ∧
      (s.missMark a).stn.changed = s.stn.changed ∧ (s.missMark a).glb = s.glb) ∧
    (s.line.missEff = if s.line.missLim = 0 then 1 else s.line.missLim.toNat) ∧
    (∀ p : Presence, (s.station a).presence ≠ p →
      (s.setPresence a p).stn.changed = s.stn.changed ||| addrBit a ∧
      (s.setPresence a p).glb.intstat = s.glb.intstat ||| IrqCause.stn.mask) ∧
    s.setPresence a (s.station a).presence = s

/-! ## Transmission -/

/-- A transmission starts: LDE rises for a break or for the frame of the exchange, built from the message and the sequence
state as they stand, and a message it serves is attempted; a frame still being received is truncated (R1, R9, R12, R13, R24,
R29, R35, R38). That the controller's own first start bit clears the idle reference point is the model's reading (log 31). -/
def Obligations.TransmissionStarts : Prop :=
  ∀ s : State, s.due.awake = true → s.due.canTransmit = true → s.due.exchangeUnsound = none →
    ∃ u : State, exec .transmissionStart s = .next u.settle ∧ u.lde = true ∧ u.rx.idle = none ∧
      u.frx.state = .hunt ∧
      (u.counters.gap =
        if s.due.frx.counted && s.due.frx.state.collecting then satInc s.due.counters.gap
        else s.due.counters.gap) ∧
      (s.due.link.x.kind = .brk → u.tx = { phase := .brk } ∧ u.link.state = .breaking) ∧
      (s.due.link.x.kind ≠ .brk → u.tx.phase = .frame ∧ u.link.state = .sending ∧
        u.tx.stop2 = s.due.line.stop2) ∧
      (∀ (k : Fin 2) (m : Message) (n : Snapshot), s.due.link.x.kind = .outbound →
        s.due.link.x.out.kind = .data → s.due.link.x.slot = some k → s.due.slot k = some m → m.snap = some n →
        u.slot k = some { m with attempted := true } ∧
        u.tx.chars = frameChars s.due.link.x.station 0 .data (s.due.station s.due.link.x.station).outSeq
          s.due.link.x.out.detail n.e.port m.payload) ∧
      (∀ (k : Fin 2) (m : Message) (n : Snapshot), s.due.link.x.kind = .bcast → s.due.link.x.out.kind = .data →
        s.due.link.x.slot = some k → s.due.slot k = some m → m.snap = some n →
        u.slot k = some { m with attempted := true } ∧
        u.tx.chars = frameChars s.due.link.x.station 0 .data false s.due.link.x.out.detail n.e.port m.payload) ∧
      (∀ (k : Fin 2) (m : Message) (n : Snapshot), s.due.link.x.kind = .member → s.due.link.x.out.kind = .data →
        s.due.link.x.slot = some k → s.due.slot k = some m → m.snap = some n →
        u.slot k = some { m with attempted := true } ∧
        u.tx.chars = frameChars 0 (s.due.lsn s.due.link.x.lslot).address .data (s.due.lsn s.due.link.x.lslot).outSeq
          s.due.link.x.out.detail n.e.port m.payload) ∧
      (s.due.link.x.kind ≠ .brk → s.due.link.x.out.kind ≠ .data → u.tx.chars =
        (if s.due.link.x.kind = .member then
          frameChars 0 (s.due.lsn s.due.link.x.lslot).address s.due.link.x.out.kind s.due.link.x.out.seq
            s.due.link.x.out.detail 0 []
        else frameChars s.due.link.x.station 0 s.due.link.x.out.kind s.due.link.x.out.seq s.due.link.x.out.detail
          0 [])) ∧
      (∀ (k : Fin 2) (m : Message), s.due.link.x.kind = .dsync → s.due.link.x.slot = some k →
        s.due.slot k = some m → u.slot k = some { m with attempted := true })

/-- Frame sent: LDE falls, the idle reference point is set, an attempt or poll awaits its reply with a new deadline, another
frame returns the link to Idle, and the anchor's sync-all resets the sequence state of every record (R4, R12, R32, R37, R51).
Where the role has become member since the frame began no record changes, whatever the frame was and wherever the link then
goes (R62); that a sync-all still ends then is read from R61 (log 39). -/
def Obligations.FrameSentEnds : Prop :=
  (∀ s : State, s.due.awake = true → s.due.tx.phase = .frame → s.due.tx.afterBreak = false →
    s.due.line.role = .member → ∃ u : State, exec .frameSent s = .next u.settle ∧ u.stn = s.due.stn ∧
      (s.due.link.state = .sending → s.due.link.x.kind = .syncAll → u.halted = false ∧
        (u.link.state = .idle ∨ u.link.state = .disabled))) ∧
  ∀ s : State, s.due.awake = true → s.due.rx.active = true → s.due.tx.phase = .frame →
    s.due.tx.afterBreak = false → s.due.tx.contention = false → s.due.link.state = .sending → s.due.LinkStays →
    (s.due.link.x.isAttempt = true → ∃ u : State, exec .frameSent s = .next u.settle ∧ u.lde = false ∧
      u.rx.idle = some 0 ∧ u.link.state = .awaiting ∧ u.link.x.waited = 0 ∧ u.link.x.passed = false ∧
      u.link.x.met = false ∧ u.slots = s.due.slots) ∧
    (s.due.link.x.isAttempt = false → s.due.link.x.kind ≠ .syncAll →
      ∃ u : State, exec .frameSent s = .next u.settle ∧ u.lde = false ∧ u.rx.idle = some 0 ∧
        u.link.state = .idle ∧ u.link.x = {} ∧ u.stn = s.due.stn) ∧
    (s.due.link.x.kind = .syncAll → s.due.line.role = .anchor → s.due.stationsUnsound = false →
      ∃ u : State, exec .frameSent s = .next u.settle ∧ u.lde = false ∧ u.link.state = .idle ∧
        ∀ a : LineAddr, a ≠ 0 → a ≠ 127 → u.station a = { s.due.station a with
          outSeq := false, inSeq := none,
          resyncNeeded := if (s.due.station a).presence = .active then false else (s.due.station a).resyncNeeded })

/-- Frame stopped: CONTENTION is counted once, LDE falls and the link leaves Sending, with no record changed in member role; a
frame whose echo was unsound never counts as sent (R15, R32, R62); that FRAME_SENT then is FRAME_STOPPED is the model's choice
(log 15). -/
def Obligations.FrameStoppedCounts : Prop :=
  ∀ s : State, s.due.awake = true → s.due.tx.phase = .frame → s.due.tx.afterBreak = false →
    (∃ u : State, exec .frameStopped s = .next u.settle ∧
      u.counters.contention = satInc s.due.counters.contention ∧ u.lde = false ∧
      (s.due.line.role = .member → u.stn = s.due.stn) ∧
      (s.due.link.state = .sending → u.halted = true ∨ u.link.state = .idle ∨ u.link.state = .disabled)) ∧
    (s.due.tx.contention = true → exec .frameSent s = exec .frameStopped s)

/-- The end of a sent break: LDE falls, the detector waits for high, BRKSYNC at the anchor resets the sequence state of every
record, and without it, or where the role has become member meanwhile, none changes (R9, R10, R51, R52, R62; log 39). The end
of a frame cut by a detected break releases LDE too (R11, R12), whatever the link then is; with the link disabled meanwhile the
receiver becomes inactive there (R5, R61; log 33). -/
def Obligations.BreakEndsAndFrameEndsAfterBreak : Prop :=
  (∀ s : State, s.due.awake = true → s.due.tx.phase = .frame → s.due.tx.afterBreak = true →
    ∃ u : State, exec .transmissionEndAfterBreak s = .next u.settle ∧ u.lde = false ∧ u.link = s.due.link ∧
      u.counters = s.due.counters ∧ (s.due.link.en = false → u.rx.active = false)) ∧
  ∀ s : State, s.due.awake = true → s.due.rx.active = true → s.due.LinkStays →
    (s.due.tx.phase = .brk → s.due.link.state = .breaking →
      (s.due.line.brkSync = true → s.due.line.role = .anchor → s.due.stationsUnsound = false) →
      ∃ u : State, exec .breakSent s = .next u.settle ∧ u.lde = false ∧ u.rx.brk = .rearming ∧
        u.rx.idle = some 0 ∧ u.link.state = .idle ∧ u.counters = s.due.counters ∧
        ∀ a : LineAddr, a ≠ 0 → a ≠ 127 → u.station a =
          if s.due.line.brkSync = true ∧ s.due.line.role = .anchor then (s.due.station a).syncedAll
          else s.due.station a) ∧
    (s.due.tx.phase = .frame → s.due.tx.afterBreak = true →
      ∃ u : State, exec .transmissionEndAfterBreak s = .next u.settle ∧ u.lde = false ∧ u.rx.idle = some 0 ∧
        u.counters = s.due.counters ∧ u.link = s.due.link)

/-- A broadcast that has settled completes its message OK (R47, R109); the expiries of the poll idle pause, the anchor-lost
timer and the moderation delay (R43, R60, R140). -/
def Obligations.TimersExpire : Prop :=
  (∀ (s : State) (k : Fin 2) (m : Message), s.due.awake = true → s.due.link.state = .awaiting →
    s.due.link.x.kind = .bcast → s.due.rx.idle.isSome = true → s.due.rx.inChar = false →
    s.due.exchangeUnsound = none → s.due.link.x.slot = some k → s.due.slot k = some m → s.due.LinkStays →
    let m1 : Message := { m with attempts := m.attempts + 1, code := .ok }
    ∃ u : State, exec .broadcastSettled s = .next u.settle ∧
      u.slot k = some { m1 with phase := .finishing .held } ∧ u.cq.holding = s.due.cq.holding ++ [m1.entry k] ∧
      u.link.state = .idle ∧ u.stn = s.due.stn) ∧
  ∀ s : State, s.due.awake = true →
    exec .pollIdlePauseEnd s = .next (s.due.setLink { s.due.link with pause := none }).settle ∧
    (s.due.line.role = .member → s.due.link.state ≠ .disabled → s.due.link.anchRunning = true →
      s.due.line.anchTo ≠ 0 → ∃ u : State, exec .anchorLost s = .next u.settle ∧
        u.link = { s.due.link with anchRunning := false, anchLost := true } ∧
        u.glb.intstat = s.due.glb.intstat ||| IrqCause.anchlost.mask ∧ u.stn = s.due.stn ∧ u.slots = s.due.slots) ∧
    (s.due.cq.timer.isSome = true → ∃ u : State, exec .moderationDelayExpiry s = .next u.settle ∧
      u.cq = { s.due.cq with unsignalled := 0, timer := none } ∧
      u.glb.intstat = s.due.glb.intstat ||| IrqCause.cq.mask)

/-! ## The anchor's decision -/

/-- The decision: a line command first, then an eligible message while the count is below BURST, then the station at PTR, then
an eligible message where polling yields nothing, with a scan made for it or without, then nothing. The message goes out as a
broadcast, as a directed sync where its station needs one, or as DATA (R41, R43, R47, R50 to R52, R72, R73). -/
def Obligations.DecisionChooses : Prop :=
  ∀ s : State, s.awake = true → s.line.role = .anchor → s.link.en = true → s.link.state = .idle →
    (∀ (c : Cmd) (rest : List Cmd), s.cmd.queue = c :: rest → s.cmd.head = .waiting →
      (c.op = 4 → exec .decision s = .next (s.setLink { s.link with state := .guard, x := { kind := .brk } })) ∧
      (c.op = 5 → exec .decision s = .next (s.setLink { s.link with
        state := .guard, x := { kind := .syncAll, station := 127, out := { kind := .sync } } }))) ∧
    (s.cmd.queue = [] → s.readyUnsound = false →
      (∀ (k : Fin 2) (m : Message) (n : Snapshot), s.pickSlot s.eligible = some k → s.slot k = some m →
        m.snap = some n → (n.bcast = false → (s.station n.e.station).sound = true) →
        let x : Exchange :=
          if n.bcast = true then { kind := .bcast, station := 127, slot := some k, out := { kind := .data } }
          else if (s.station n.e.station).resyncNeeded = true
            then { kind := .dsync, station := n.e.station, slot := some k, out := { kind := .sync } }
            else { kind := .outbound, station := n.e.station, slot := some k, out := { kind := .data } }
        (s.link.outbound < s.line.burstEff ∨ s.link.pollen = false ∨ s.poll.len = 0 ∨ s.link.pause.isSome = true →
          exec .decision s =
            .next (s.setLink { s.link with state := .guard, outbound := s.link.outbound + 1, x := x })) ∧
        (∀ t : State, s.line.burstEff ≤ s.link.outbound → s.pollScan = (t, none) → t.halted = false →
          exec .decision s =
            .next (t.setLink { t.link with state := .guard, outbound := s.link.outbound + 1, x := x }))) ∧
      (s.pickSlot s.eligible = none ∨ s.line.burstEff ≤ s.link.outbound → s.link.pollen = true → s.poll.len ≠ 0 →
        s.link.pause = none → s.poll.current ≠ 0 → s.poll.current ≠ 127 →
        (s.station s.poll.current).sound = true →
        ((s.station s.poll.current).presence ≠ .silent ∨ s.poll.round = 0) →
        exec .decision s = .next ((s.setPoll s.poll.advance).setLink { s.link with
          state := .guard, outbound := 0,
          x := if (s.station s.poll.current).resyncNeeded = true
            then { kind := .dsync, station := s.poll.current, out := { kind := .sync } }
            else { kind := .poll, station := s.poll.current, out := { kind := .poll } } })) ∧
      (s.pickSlot s.eligible = none → s.link.pollen = false → exec .decision s = .next s))

/-- A scan without a result leaves PTR where it started, has advanced ROUND once and begins a poll idle pause (R72, R73). -/
def Obligations.ScanWithoutResult : Prop :=
  ∀ s t : State, s.canScan = true → s.poll.ptr.toNat < s.poll.len.toNat → s.poll.len.toNat ≤ 32 →
    s.pollScan = (t, none) → t.halted = false →
    t.poll = { s.poll with round := s.poll.round + 1 } ∧ t.link = { s.link with pause := some 0 } ∧
      t.stn = s.stn

/-! ## Staging -/

/-- A staging begins from the lowest ring that can be staged from, in the lowest free slot, with the descriptor read at
TXBASEn + 16 x TXCONSn (R99, R103, R104). -/
def Obligations.StagingBegins : Prop :=
  ∀ (s : State) (k : Fin 2) (n : Fin 4), s.held = false → s.glb.power = .run → s.stagingSlot = none →
    s.slot k = none → (k = 1 → s.slot 0 ≠ none) → s.stageable n = true → (∀ j : Fin 4, j < n → s.stageable j = false) →
    exec .stagingStart s = .next (s.setSlot k (some
      { ring := n, index := (s.ring n).cons,
        txn := (s.ring n).base + BitVec.ofNat 32 (16 * (s.ring n).cons.toNat), phase := .fetch }))

/-- The descriptor read completes: a bus error, a format error and a channel at or above MAPLEN are staging faults that free
the slot, put the ring in Faulted and leave TXCONSn; a good descriptor whose channel is not cached begins a walk (R82, R84,
R102, R104, R106, R151). A hit moves the entry to the head of the recency list whatever the checks then find, and in either
role goes on with the cached fields to their first failure, to MARK, or with Ref = 1 past it (R81, R84 to R88); in member role
the Station step fails where no usable slot owns the Station, and binds the message to the slot that does (R75, R85). An entry with unsound parity is
removed, posted and replaced by a walk, or halts the controller (R81, R92, R159, R160). That the move and the removal take
every other entry showing the channel with them is the model's choice (log 28), and so are that at a Halt the entry stays
(log 45) and the address of the mark (log 46). -/
def Obligations.FetchCompletes : Prop :=
  (∀ (s : State) (k : Fin 2) (m : Message) (w0 w1 w2 w3 : Word) (e : CacheEntry), s.due.awake = true →
    .fetch ∈ s.due.inFlight → s.due.StagedIn k m .fetch → txFormatError w0 w3 = false →
    (w0.extractLsb' 0 12).toNat < s.due.map.len.toNat → s.due.map.find (w0.extractLsb' 0 12) = some e →
    e.sound = false → (s.due.glb.ichk = false ∨ s.due.flt.outstanding .integ = true) →
    ∃ t : State, exec (.fetchComplete .live (.data w0 w1 w2 w3)) s = .next t ∧ t.glb.power = .halt ∧
      t.glb.haltCause = (if s.due.glb.ichk = true then .doubleIntegrity else .cacheParity) ∧
      t.map = s.due.map ∧ t.slots = s.due.slots ∧ t.flt = s.due.flt) ∧
  ∀ (s : State) (k : Fin 2) (m : Message) (w0 w1 w2 w3 : Word), s.due.awake = true → .fetch ∈ s.due.inFlight →
    s.due.StagedIn k m .fetch → s.due.flt = {} →
    let c : Channel := w0.extractLsb' 0 12
    let good : Message := { m with
      chan := c, length := w0.extractLsb' 12 7, ioc := w0.getLsbD 24, quiet := w0.getLsbD 25, buffer := w1, cookie := w2 }
    (∃ u : State, exec (.fetchComplete .live .error) s = .next u.settle ∧ u.slot k = none ∧
      u.ring m.ring = { s.due.ring m.ring with state := .faulted } ∧
      u.flt.record = some {
        source := .tx m.ring, kind := .descBus, phase := .fetch, index := m.index, chan := 0,
        addr := m.txn, ioc := m.ioc, cookie := m.cookie } ∧
      u.glb.intstat = s.due.glb.intstat ||| IrqCause.fault.mask) ∧
    (txFormatError w0 w3 = true → ∃ u : State,
      exec (.fetchComplete .live (.data w0 w1 w2 w3)) s = .next u.settle ∧ u.slot k = none ∧
      u.ring m.ring = { s.due.ring m.ring with state := .faulted } ∧
      u.flt.record = some {
        source := .tx m.ring, kind := .descFormat, phase := .fetch, index := m.index, chan := c,
        addr := m.txn, ioc := w0.getLsbD 24, cookie := w2 }) ∧
    (txFormatError w0 w3 = false → s.due.map.len.toNat ≤ c.toNat → ∃ u : State,
      exec (.fetchComplete .live (.data w0 w1 w2 w3)) s = .next u.settle ∧ u.slot k = none ∧
      u.ring m.ring = { s.due.ring m.ring with state := .faulted } ∧
      u.flt.record = some {
        source := .tx m.ring, kind := .range, phase := .translate, index := m.index, chan := c,
        addr := 0, ioc := w0.getLsbD 24, cookie := w2 }) ∧
    (txFormatError w0 w3 = false → c.toNat < s.due.map.len.toNat → s.due.map.find c = none → ∃ u : State,
      exec (.fetchComplete .live (.data w0 w1 w2 w3)) s = .next u.settle ∧
      u.slot k = some { good with
        phase := .translate, txn := s.due.map.base + BitVec.ofNat 32 (8 * c.toNat) } ∧
      u.map.walk = some
        { chan := c, addr := s.due.map.base + BitVec.ofNat 32 (8 * c.toNat), permission := true } ∧
      u.map.cache = s.due.map.cache ∧ u.rings = s.due.rings) ∧
    (∀ e : CacheEntry, txFormatError w0 w3 = false → c.toNat < s.due.map.len.toNat → s.due.map.find c = some e →
      e.sound = true → ∃ u : State, exec (.fetchComplete .live (.data w0 w1 w2 w3)) s = .next u.settle ∧
      u.map = { s.due.map with cache := (e :: s.due.map.cache.filter (fun x => x.chan != c)).take 16 } ∧
      s.due.CopyChecked u k good e.e e.addr true) ∧
    (∀ e : CacheEntry, txFormatError w0 w3 = false → c.toNat < s.due.map.len.toNat → s.due.map.find c = some e →
      e.sound = false → s.due.glb.ichk = true →
      ∃ u : State, exec (.fetchComplete .live (.data w0 w1 w2 w3)) s = .next u.settle ∧
        u.slot k = some { good with
          phase := .translate, txn := s.due.map.base + BitVec.ofNat 32 (8 * c.toNat) } ∧
        u.map = { s.due.map with
          cache := s.due.map.cache.filter (fun x => x.chan != c),
          walk := some
            { chan := c, addr := s.due.map.base + BitVec.ofNat 32 (8 * c.toNat), permission := true } } ∧
        u.flt.record = some {
          source := .integ, kind := .cacheParity, phase := .translate, index := m.index, chan := c, addr := 0 } ∧
        u.glb.intstat = s.due.glb.intstat ||| IrqCause.fault.mask ∧ u.rings = s.due.rings)

/-- A walk completes: a bus error and V = 0 are staging faults and install nothing; every valid entry is installed at the head
of the recency list where the permission is held, a seventeenth leaving at the tail, whatever the checks then find, and the
checks go on in either role to their first failure, to MARK, or with Ref = 1 past it (R78, R82 to R88, R106). In member role
the Station step fails where no usable slot owns the Station, and binds the message to the slot that does (R75, R85). That an
install drops another entry showing the channel, and the address of the mark, are the model's choices (logs 28 and 46). -/
def Obligations.WalkCompletes : Prop :=
  ∀ (s : State) (k : Fin 2) (m : Message) (w : Walk) (b : BitVec 64), s.due.awake = true → .walk ∈ s.due.inFlight →
    s.due.StagedIn k m .translate → s.due.map.walk = some w → s.due.flt = {} →
    (∃ u : State, exec (.walkComplete .live .error) s = .next u.settle ∧ u.slot k = none ∧
      u.map = { s.due.map with walk := none } ∧ u.ring m.ring = { s.due.ring m.ring with state := .faulted } ∧
      u.flt.record = some {
        source := .tx m.ring, kind := .mapBus, phase := .translate, index := m.index,
        chan := m.chan, addr := w.addr, ioc := m.ioc, cookie := m.cookie }) ∧
    (b.getLsbD 0 = false → ∃ u : State, exec (.walkComplete .live (.data b)) s = .next u.settle ∧ u.slot k = none ∧
      u.map = { s.due.map with walk := none } ∧ u.ring m.ring = { s.due.ring m.ring with state := .faulted } ∧
      u.flt.record = some {
        source := .tx m.ring, kind := .mapInvalid, phase := .translate, index := m.index,
        chan := m.chan, addr := w.addr, ioc := m.ioc, cookie := m.cookie }) ∧
    (b.getLsbD 0 = true →
      let e : MapEntry := {
        p := b.getLsbD 1, station := b.extractLsb' 8 7, port := b.extractLsb' 16 4, retry := b.extractLsb' 20 4,
        maxLen := b.extractLsb' 24 8, fullLimit := b.extractLsb' 32 8, byte7 := b.extractLsb' 56 8 }
      let entry : CacheEntry := { chan := w.chan, addr := w.addr, e := e }
      ∃ u : State, exec (.walkComplete .live (.data b)) s = .next u.settle ∧
        u.map = { s.due.map with
          walk := none,
          cache := if w.permission = true
            then (entry :: s.due.map.cache.filter (fun x => x.chan != w.chan)).take 16 else s.due.map.cache } ∧
        (w.permission = true → u.map.find w.chan = some entry) ∧
        u.map.cache.length ≤ max 16 s.due.map.cache.length ∧
        s.due.CopyChecked u k m e w.addr w.permission)

/-- MARK and LOAD complete: the mark sets Ref in the working copy and takes the snapshot, a failed mark or payload read is a
staging fault, and the last payload read makes the message Ready and not attempted (R35, R87, R88, R105, R106). -/
def Obligations.MarkAndLoadComplete : Prop :=
  ∀ (s : State) (k : Fin 2) (m : Message), s.due.awake = true → s.due.flt = {} →
    (.mark ∈ s.due.inFlight → s.due.StagedIn k m .mark →
      (∃ u : State, exec (.markWriteComplete .live .error) s = .next u.settle ∧ u.slot k = none ∧
        u.ring m.ring = { s.due.ring m.ring with state := .faulted } ∧ u.map = s.due.map ∧
        u.flt.record = some {
          source := .tx m.ring, kind := .markBus, phase := .mark, index := m.index,
          chan := m.chan, addr := m.txn, ioc := m.ioc, cookie := m.cookie }) ∧
      (∀ w : Working, m.work = some w → m.length ≠ 0 →
        ∃ (u : State) (n : Snapshot), exec (.markWriteComplete .live .ok) s = .next u.settle ∧
          u.slot k = some { m with
            work := some { w with e := w.e.withRef }, snap := some n, phase := .load, txn := m.buffer, payload := [] } ∧
          n.chan = m.chan ∧ n.addr = w.addr ∧ n.e.byte7 = w.e.byte7 ||| 1 ∧ n.e.station = w.e.station ∧
          n.e.maxLen = maxLenEff w.e.maxLen ∧ n.persona = w.persona)) ∧
    (.payload ∈ s.due.inFlight → s.due.StagedIn k m .load →
      (∃ u : State, exec (.payloadReadComplete .live .error) s = .next u.settle ∧ u.slot k = none ∧
        u.ring m.ring = { s.due.ring m.ring with state := .faulted } ∧
        u.flt.record = some {
          source := .tx m.ring, kind := .payloadBus, phase := .load, index := m.index,
          chan := m.chan, addr := m.txn, ioc := m.ioc, cookie := m.cookie }) ∧
      (∀ bytes : List Byte, m.payload.length + bytes.length = m.length.toNat →
        ∃ u : State, exec (.payloadReadComplete .live (.data bytes)) s = .next u.settle ∧
          u.slot k = some { m with
            payload := m.payload ++ bytes, phase := .ready, work := none, attempts := 0, lastCause := .none,
            fullCount := 0, attempted := false } ∧ u.rings = s.due.rings))

/-- An Err write-back completes: the message's entry joins the holding list; a bus error is a FINISH fault that keeps the
slot and shows Sent = 1 (R89, R90, R109, R111). Where the channel is cached, its entry gets Ref and Err in place; one with
unsound parity is removed and posted, and the message still joins, or the controller halts (R83, R90, R92, R160). That other
sound entries showing the channel change with it, and that a removal takes them all, are the model's choices (log 28), and so
is that at a Halt the entry stays (log 45). -/
def Obligations.ErrWriteCompletes : Prop :=
  ∀ (s : State) (k : Fin 2) (m : Message) (n : Snapshot), s.due.awake = true → .errWrite ∈ s.due.inFlight →
    s.due.slot k = some m → m.phase = .finishing .errWrite → m.sound = true → m.snap = some n →
    (s.due.map.find n.chan = none → ∃ u : State,
      exec (.errWriteBackComplete .live k .ok) s = .next u.settle ∧
      u.slot k = some { m with phase := .finishing .held } ∧ u.cq.holding = s.due.cq.holding ++ [m.entry k] ∧
      u.map = s.due.map ∧ u.rings = s.due.rings) ∧
    (∀ e : CacheEntry, s.due.map.find n.chan = some e → e.sound = true → ∃ u : State,
      exec (.errWriteBackComplete .live k .ok) s = .next u.settle ∧
      u.slot k = some { m with phase := .finishing .held } ∧ u.cq.holding = s.due.cq.holding ++ [m.entry k] ∧
      u.map = { s.due.map with cache := s.due.map.cache.map fun x =>
        if x.chan = n.chan ∧ x.sound = true then { x with e := { x.e with byte7 := x.e.byte7 ||| 3 } } else x } ∧
      u.map.find n.chan = some { e with e := { e.e with byte7 := e.e.byte7 ||| 3 } } ∧ u.rings = s.due.rings ∧
      u.flt = s.due.flt) ∧
    (∀ e : CacheEntry, s.due.map.find n.chan = some e → e.sound = false →
      (s.due.flt = {} → s.due.glb.ichk = true → ∃ u : State,
        exec (.errWriteBackComplete .live k .ok) s = .next u.settle ∧
        u.slot k = some { m with phase := .finishing .held } ∧ u.cq.holding = s.due.cq.holding ++ [m.entry k] ∧
        u.map = { s.due.map with cache := s.due.map.cache.filter (fun x => x.chan != n.chan) } ∧
        u.flt.record = some {
          source := .integ, kind := .cacheParity, phase := .finish, index := m.index, chan := n.chan, addr := 0 } ∧
        u.glb.intstat = s.due.glb.intstat ||| IrqCause.fault.mask) ∧
      (s.due.glb.ichk = false ∨ s.due.flt.outstanding .integ = true → ∃ t : State,
        exec (.errWriteBackComplete .live k .ok) s = .next t ∧ t.glb.power = .halt ∧
        t.glb.haltCause = (if s.due.glb.ichk = true then .doubleIntegrity else .cacheParity) ∧
        t.map = s.due.map ∧ t.slots = s.due.slots ∧ t.cq = s.due.cq)) ∧
    (s.due.flt = {} → ∃ u : State, exec (.errWriteBackComplete .live k .error) s = .next u.settle ∧
      u.slot k = some { m with phase := .finishing .faulted } ∧ u.cq.holding = s.due.cq.holding ∧
      u.ring m.ring =
        { s.due.ring m.ring with state := .faulted, before := (s.due.ring m.ring).state } ∧
      u.flt.record = some {
        source := .tx m.ring, kind := .markBus, phase := .finish, sent := true,
        index := m.index, chan := n.chan, addr := m.txn, ioc := m.ioc, cookie := m.cookie })

/-! ## The receive path -/

/-- A drain's steps in order: descriptor, payload, word 2, word 3, then RXCONS, the list, RXD and DRAINING (R123 to R126). A
payload write carries the next bytes, byte i of the payload to Buffer + i, and none past the delivered length (R125). -/
def Obligations.DrainSteps : Prop :=
  (∀ (s : State) (r : RxFrame) (rest : List RxFrame), s.awake = true → s.rxp.canDrain = true →
    s.rxp.buffers = r :: rest → r.sound = true →
    exec .drainStart s = .next (s.setRxp { s.rxp with
      drain := some { addr := s.rxp.base + BitVec.ofNat 32 (16 * s.rxp.cons.toNat), step := .desc } })) ∧
  (∀ (s : State) (d : Drain) (r : RxFrame) (rest : List RxFrame), s.due.awake = true → s.due.rxp.drain = some d →
    s.due.rxp.buffers = r :: rest → r.sound = true → d.dma ⊆ s.due.inFlight →
    (d.step = .desc → ∀ w0 w1 w2 w3 : Word, w1.extractLsb' 0 8 ≠ 0#8 → ∃ u : State,
      exec (.rxDescriptorReadComplete .live (.data w0 w1 w2 w3)) s = .next u.settle ∧
      u.rxp = { s.due.rxp with drain := some { d with
        step := if min r.payload.length (w1.extractLsb' 0 8).toNat = 0 then .word2 (rxWord2 r 0)
          else .payload w0 (w1.extractLsb' 0 8) 0 } }) ∧
    (∀ (buffer : Word) (capacity : Byte) (written count : Nat), d.step = .payload buffer capacity written →
      0 < count → written + count ≤ min r.payload.length capacity.toNat →
      (s.due.payloadWrite count).length = count ∧
      (∀ (i : Nat) (b : Byte), i < count → r.payload[written + i]? = some b →
        (s.due.payloadWrite count)[i]? = some (buffer + BitVec.ofNat 32 (written + i), b)) ∧
      ∃ u : State, exec (.rxPayloadWriteComplete .live count .ok) s = .next u.settle ∧
      u.rxp = { s.due.rxp with drain := some { d with
        step := if written + count = min r.payload.length capacity.toNat then .word2 (rxWord2 r (written + count))
          else .payload buffer capacity (written + count) } }) ∧
    (∀ (buffer : Word) (capacity : Byte) (written count : Nat), d.step = .payload buffer capacity written →
      (s.due.payloadWrite count).length ≤ min r.payload.length capacity.toNat - written) ∧
    (∀ v : Word, d.step = .word2 v → ∃ u : State, exec (.word2WriteComplete .live .ok) s = .next u.settle ∧
      u.rxp = { s.due.rxp with drain := some { d with step := .word3 (rxWord3 r) } }) ∧
    (∀ v : Word, d.step = .word3 v → ∃ u : State, exec (.word3WriteComplete .live .ok) s = .next u.settle ∧
      u.rxp = { s.due.rxp with
        cons := nextIndex s.due.rxp.cons s.due.rxp.size, buffers := rest, drain := none } ∧
      u.glb.intstat = s.due.glb.intstat ||| IrqCause.rxd.mask))

/-- A failed drain step stops the drain, keeps the frame, RXCONS and EN, and posts its fault (R124 to R126, R128). It does so
whatever the parity of the frame, which it does not read: the model's reading of R159 (log 10). -/
def Obligations.ReceiveFaults : Prop :=
  ∀ (s : State) (d : Drain) (r : RxFrame) (rest : List RxFrame), s.due.awake = true → s.due.rxp.drain = some d →
    s.due.rxp.buffers = r :: rest → d.dma ⊆ s.due.inFlight → s.due.flt = {} →
    let failed (c : Instr) (kind : FaultKind) (addr : Word) : Prop :=
      ∃ u : State, exec c s = .next u.settle ∧ u.rxp = { s.due.rxp with drain := none, faulted := true } ∧
        u.flt.record = some
          { source := .rx, kind := kind, phase := .na, index := s.due.rxp.cons, chan := 0, addr := addr } ∧
        u.glb.intstat = s.due.glb.intstat ||| IrqCause.fault.mask
    (d.step = .desc → failed (.rxDescriptorReadComplete .live .error) .descBus d.addr ∧
      ∀ w0 w1 w2 w3 : Word, w1.extractLsb' 0 8 = 0#8 →
        failed (.rxDescriptorReadComplete .live (.data w0 w1 w2 w3)) .descFormat d.addr) ∧
    (∀ (buffer : Word) (capacity : Byte) (written count : Nat), d.step = .payload buffer capacity written →
      failed (.rxPayloadWriteComplete .live count .error) .payloadBus (buffer + BitVec.ofNat 32 written)) ∧
    (∀ v : Word, d.step = .word2 v → failed (.word2WriteComplete .live .error) .recordBus (d.addr + 8)) ∧
    (∀ v : Word, d.step = .word3 v → failed (.word3WriteComplete .live .error) .recordBus (d.addr + 12))

/-! ## The completion queue -/

/-- A record write: its position and words, what its completion advances and releases, and what a bus error leaves (R133,
R134, R137, R139). A written record counts for moderation and signals CQ at once with IOC or at COUNT (R140). A blocking
episode begins where an entry that needs a record meets a full queue, and sets CQFULL once (R138). The entry of a QUIET message
with code OK gets no record: at the head of the list it leaves at the end of the event, the queue full or not, frees its slot,
advances TXCONSn, and neither counts nor signals; no event ends with such an entry at the head (R110). -/
def Obligations.RecordWrites : Prop :=
  (∀ (s : State) (e : Entry) (rest : List Entry), s.awake = true → s.cq.holding = e :: rest → e.silent = false →
    s.cq.full = false → s.cq.inFlight = none → s.flt.outstanding .cq = false → s.bus.afterReset = [] →
    exec .recordWriteIssue s = .next (s.setCq { s.cq with
      inFlight := some {
        addr := s.cq.base + BitVec.ofNat 32 (16 * s.cq.tail.toNat), w0 := e.word0 s.cq.phase, w1 := e.word1,
        w2 := e.cookie, w3 := e.word3 } })) ∧
  (∀ (s : State) (e : Entry) (rest : List Entry), s.due.awake = true → .record ∈ s.due.inFlight →
    s.due.cq.holding = e :: rest →
    (e.waiter = .notice → ∃ u : State, exec (.recordWriteComplete .live .ok) s = .next u.settle ∧
      u.cq.tail = nextIndex s.due.cq.tail s.due.cq.size ∧
      u.cq.phase = (if nextIndex s.due.cq.tail s.due.cq.size = 0 then !s.due.cq.phase else s.due.cq.phase) ∧
      u.cq.holding = rest ∧ u.cq.inFlight = none ∧ u.cq.blocking = false ∧
      u.rings = s.due.rings ∧ u.slots = s.due.slots) ∧
    (∀ k : Fin 2, e.waiter = .slot k → (s.due.ring e.ring).state = .running →
      ∃ u : State, exec (.recordWriteComplete .live .ok) s = .next u.settle ∧
        u.cq.tail = nextIndex s.due.cq.tail s.due.cq.size ∧ u.cq.holding = rest ∧ u.slot k = none ∧
        u.ring e.ring = { s.due.ring e.ring with
          cons := nextIndex (s.due.ring e.ring).cons (s.due.ring e.ring).size }) ∧
    (∀ adv : Bool, e.waiter = .skipped adv → (s.due.ring e.ring).state ≠ .stopping →
      ∃ u : State, exec (.recordWriteComplete .live .ok) s = .next u.settle ∧ u.cq.holding = rest ∧
        u.slots = s.due.slots ∧ u.ring e.ring =
          if adv = true then { s.due.ring e.ring with
            cons := nextIndex (s.due.ring e.ring).cons (s.due.ring e.ring).size }
          else s.due.ring e.ring) ∧
    (e.waiter = .command → ∃ u : State, exec (.recordWriteComplete .live .ok) s = .next u.settle ∧
      u.cq.holding = rest ∧ u.cmd = { s.due.cmd with queue := s.due.cmd.queue.tail, head := .fresh } ∧
      u.rings = s.due.rings ∧ u.slots = s.due.slots) ∧
    (let n : Byte := satInc s.due.cq.unsignalled
      ∃ u : State, exec (.recordWriteComplete .live .ok) s = .next u.settle ∧
        (e.ioc = true ∨ s.due.cq.countEff ≤ n.toNat → u.cq.unsignalled = 0 ∧ u.cq.timer = none ∧
          u.glb.intstat = s.due.glb.intstat ||| IrqCause.cq.mask) ∧
        (e.ioc = false → n.toNat < s.due.cq.countEff → u.cq.unsignalled = n ∧
          u.cq.timer = (if n = 1 ∧ s.due.cq.delay ≠ 0 then some 0 else s.due.cq.timer) ∧
          u.glb.intstat = s.due.glb.intstat)) ∧
    (s.due.flt = {} → ∃ u : State, exec (.recordWriteComplete .live .error) s = .next u.settle ∧
      u.cq = { s.due.cq with inFlight := none } ∧ u.rings = s.due.rings ∧ u.slots = s.due.slots ∧
      u.flt.record = some {
        source := .cq, kind := .cqBus, phase := .na, index := e.index, chan := e.chan,
        addr := s.due.cq.base + BitVec.ofNat 32 (16 * s.due.cq.tail.toNat) })) ∧
  (∀ (s : State) (e : Entry) (rest : List Entry), s.awake = true → s.cq.holding = e :: rest → e.silent = false →
    s.cmd.queue = [] →
    (s.cq.full = true → s.cq.inFlight = none → s.flt.outstanding .cq = false → s.cq.blocking = false →
      s.settle = (s.setCq { s.cq with blocking := true }).setGlb
        { s.glb with intstat := s.glb.intstat ||| IrqCause.cqfull.mask }) ∧
    (s.cq.blocking = true ∨ s.cq.full = false → s.settle = s)) ∧
  (∀ (s : State) (e : Entry) (rest : List Entry) (k : Fin 2), s.halted = false → s.cmd.queue = [] →
    s.cq.holding = e :: rest → e.kind = .message → e.quiet = true → e.code = .ok → e.waiter = .slot k →
    (s.ring e.ring).state = .running → (rest.head?).any (·.silent) = false →
    exec .recordWriteIssue s = .next s ∧ s.settle.cq.holding = rest ∧ s.settle.cq.tail = s.cq.tail ∧
    s.settle.cq.phase = s.cq.phase ∧ s.settle.cq.inFlight = s.cq.inFlight ∧
    s.settle.cq.unsignalled = s.cq.unsignalled ∧ s.settle.cq.timer = s.cq.timer ∧
    s.settle.ring e.ring =
      { s.ring e.ring with cons := nextIndex (s.ring e.ring).cons (s.ring e.ring).size } ∧
    s.settle.slot k = none ∧ s.settle.glb.intstat &&& IrqCause.cq.mask = s.glb.intstat &&& IrqCause.cq.mask ∧
    (rest = [] → s.settle.glb = s.glb)) ∧
  (∀ s : State, s.halted = false → s.cmd.queue = [] → (s.settle.cq.holding.head?).any (·.silent) = false)

/-! ## Commands -/

/-- A write to CMD wakes a dozing controller and appends one command to a queue of fewer than 8, or is dropped and reported as
an overflow (R144, R145, R149, R169). That ILLEGAL_COMMAND with an op below 9 is the command of that op is the model's choice
(log 36). -/
def Obligations.CommandWritesQueueUp : Prop :=
  (∀ (s : State) (op : BitVec 4) (n : Bool) (t : Byte) (a : BitVec 16), s.due.live = true →
    let written (o : BitVec 4) : Host.Outcome State Fault Refusal :=
      .next (s.due.wakeWrite.enqueue { op := o, notify := n, tag := t, arg := a }).settle
    exec (.nop n t a) s = written 0 ∧ exec (.invalidateChannel n t a) s = written 1 ∧
    exec (.invalidateAll n t a) s = written 2 ∧ exec (.fence n t a) s = written 3 ∧
    exec (.lineBreak n t a) s = written 4 ∧ exec (.syncAll n t a) s = written 5 ∧
    exec (.stationReset n t a) s = written 6 ∧ exec (.ringStart n t a) s = written 7 ∧
    exec (.ringStop n t a) s = written 8 ∧ exec (.illegalCommand op n t a) s = written op) ∧
  (∀ (s : State) (c : Cmd),
    (s.cmd.queue.length < 8 → s.enqueue c = s.setCmd { s.cmd with queue := s.cmd.queue ++ [c] }) ∧
    (8 ≤ s.cmd.queue.length → s.enqueue c =
      (s.setCmd { s.cmd with err := true, errCode := .overflow, errTag := c.tag }).setGlb
        { s.glb with intstat := s.glb.intstat ||| IrqCause.cmderr.mask }))

/-- INVALIDATE ALL, at the head of the queue, empties the cache and withdraws the permission of a walk in flight whatever
its channel, changes nothing else and completes at that event; no lookup then hits. Written to an empty queue without NOTIFY
it does all this at the event of the write (R94). -/
def Obligations.InvalidateAllActs : Prop :=
  let acted (s : State) : State := s.setMap { s.map with
    cache := [], walk := s.map.walk.map fun w => { w with permission := false } }
  (∀ (s : State) (c : Cmd), c.op = 2 → s.beginHead c = (acted s).endCommand .ok) ∧
  (∀ (s : State) (c : Channel), (acted s).map.find c = none) ∧
  (∀ (s : State) (t : Byte) (a : BitVec 16), s.due.CommandFree →
    exec (.invalidateAll false t a) s = .next (acted s.due))

/-- NOP and INVALIDATE CHANNEL written to an empty queue: without NOTIFY they complete at the same event; with it their
COMMAND_DONE joins the holding list and they stay at the head (R93, R146, R147). An argument above 4095 is rejected with ARG
and none of the effect; with NOTIFY the COMMAND_DONE then says REJECTED (R146, R148). That INVALIDATE CHANNEL drops every
entry that shows the channel, where a disturbance has made a second one show it, is the model's choice (log 28). -/
def Obligations.ImmediateCommandsComplete : Prop :=
  ∀ (s : State) (t : Byte) (a : BitVec 16), s.due.CommandFree →
    exec (.nop false t a) s = .next s.due ∧
    (∃ u : State, exec (.nop true t a) s = .next u ∧ u.cmd.head = .reporting ∧
      u.cmd.queue = [{ op := 0, notify := true, tag := t, arg := a }] ∧ u.map = s.due.map ∧ u.rings = s.due.rings ∧
      u.cq.holding = [{ kind := .commandDone, waiter := .command, code := .ok, index := t }]) ∧
    (a.toNat < 4096 →
      let m : ChannelMap := { s.due.map with
        cache := s.due.map.cache.filter (fun e => e.chan != a.extractLsb' 0 12),
        walk := s.due.map.walk.map fun w =>
          if w.chan = a.extractLsb' 0 12 then { w with permission := false } else w }
      exec (.invalidateChannel false t a) s = .next (s.due.setMap m) ∧
      ∃ u : State, exec (.invalidateChannel true t a) s = .next u ∧ u.cmd.head = .reporting ∧
        u.cmd.queue = [{ op := 1, notify := true, tag := t, arg := a }] ∧ u.map = m ∧ u.rings = s.due.rings ∧
        u.slots = s.due.slots ∧
        u.cq.holding = [{ kind := .commandDone, waiter := .command, code := .ok, index := t }]) ∧
    (4096 ≤ a.toNat →
      (∃ u : State, exec (.invalidateChannel false t a) s = .next u ∧ u.map = s.due.map ∧
        u.cmd = { s.due.cmd with queue := [], err := true, errCode := .arg, errTag := t } ∧
        u.glb.intstat = s.due.glb.intstat ||| IrqCause.cmderr.mask) ∧
      ∃ u : State, exec (.invalidateChannel true t a) s = .next u ∧ u.map = s.due.map ∧
        u.cmd = { s.due.cmd with
          queue := [{ op := 1, notify := true, tag := t, arg := a }], head := .reporting, err := true,
          errCode := .arg, errTag := t } ∧
        u.glb.intstat &&& IrqCause.cmderr.mask = IrqCause.cmderr.mask ∧
        u.cq.holding = [{ kind := .commandDone, waiter := .command, code := .rejected, index := t }])

/-- RING START and RING STOP written to an empty queue without NOTIFY, for a ring that holds no message: Stopped to Running,
Running to Stopped with its notice, no effect where the ring is there already, and STATE in Stopping and Faulted (R113 to
R115, R148). RING STOP of a Running ring that holds one: a message being staged, or Ready and neither attempted nor in use, is
abandoned and the ring Stopped; with one in use or finishing the ring is Stopping and the command waits; one between attempts
is given STOPPED besides, or halts the controller where its parity is unsound (R107, R114 to R116, R159). That the others are
abandoned or left without a check of their parity is the model's choice (log 10). -/
def Obligations.RingCommandsAct : Prop :=
  (∀ (s : State) (t : Byte) (n : Fin 4), s.due.CommandFree → s.due.ringSlot n = none →
    let a : BitVec 16 := BitVec.ofNat 16 n.val
    ((s.due.ring n).state = .stopped →
      exec (.ringStart false t a) s = .next (s.due.setRing n { s.due.ring n with state := .running }) ∧
      exec (.ringStop false t a) s = .next s.due) ∧
    ((s.due.ring n).state = .running → exec (.ringStart false t a) s = .next s.due ∧
      ∃ u : State, exec (.ringStop false t a) s = .next u ∧
        u.ring n = { s.due.ring n with state := .stopped } ∧ u.cmd.queue = [] ∧
        u.cq.holding = [{ kind := .ringStopped, waiter := .notice, ring := n, index := (s.due.ring n).cons }]) ∧
    ((s.due.ring n).state = .stopping ∨ (s.due.ring n).state = .faulted →
      ∃ u : State, exec (.ringStart false t a) s = .next u ∧ exec (.ringStop false t a) s = .next u ∧
        u.rings = s.due.rings ∧ u.cmd = { s.due.cmd with err := true, errCode := .state, errTag := t } ∧
        u.glb.intstat = s.due.glb.intstat ||| IrqCause.cmderr.mask)) ∧
  (∀ (s : State) (t : Byte) (n : Fin 4) (k : Fin 2) (m : Message), s.due.CommandFree → s.due.ringSlot n = some k →
    s.due.slot k = some m → m.ring = n → (s.due.ring n).state = .running →
    let c : Cmd := { op := 8, notify := false, tag := t, arg := BitVec.ofNat 16 n.val }
    let inUse : Prop := s.due.link.x.slot = some k
    (m.phase.staging = true ∨ (m.phase = .ready ∧ m.attempted = false ∧ ¬inUse) →
      ∃ u : State, exec (.ringStop false t c.arg) s = .next u ∧ u.slot k = none ∧ u.cmd.queue = [] ∧
        u.ring n = { s.due.ring n with state := .stopped } ∧
        u.cq.holding = [{ kind := .ringStopped, waiter := .notice, ring := n, index := (s.due.ring n).cons }]) ∧
    (m.phase.isFinishing = true ∨ (m.phase = .ready ∧ inUse) →
      ∃ u : State, exec (.ringStop false t c.arg) s = .next u ∧ u.slots = s.due.slots ∧
        u.ring n = { s.due.ring n with state := .stopping } ∧ u.cmd.queue = [c] ∧ u.cmd.head = .stopping ∧
        u.cq.holding = []) ∧
    (m.phase = .ready → m.attempted = true → ¬inUse →
      (m.sound = true → ∃ u : State, exec (.ringStop false t c.arg) s = .next u ∧
        u.slot k = some { m with code := .stopped, phase := .finishing .held } ∧
        u.ring n = { s.due.ring n with state := .stopping } ∧ u.cmd.queue = [c] ∧ u.cmd.head = .stopping ∧
        u.cq.holding = [({ m with code := .stopped } : Message).entry k]) ∧
      (m.sound = false → ∃ u : State, exec (.ringStop false t c.arg) s = .next u ∧ u.halted = true ∧
        u.glb.haltCause = .stagingParity ∧ u.slots = s.due.slots ∧ u.rings = s.due.rings)))

/-- STATION RESET, FENCE, LINE BREAK, SYNC ALL and an illegal op, written to an empty queue without NOTIFY (R69, R95, R96,
R146 to R148). -/
def Obligations.OtherCommandsAct : Prop :=
  ∀ (s : State) (t : Byte) (a : BitVec 16), s.due.CommandFree →
    (s.due.line.role = .anchor → 1 ≤ a.toNat → a.toNat ≤ 126 → s.due.exchangeWith (a.extractLsb' 0 7) = false →
      (s.due.station (a.extractLsb' 0 7)).sound = true →
      ∃ u : State, exec (.stationReset false t a) s = .next u ∧ u.cmd = s.due.cmd ∧
        u.station (a.extractLsb' 0 7) = { s.due.station (a.extractLsb' 0 7) with
          presence := .unknown, outSeq := false, inSeq := none, missCount := 0, resyncNeeded := true } ∧
        (∀ b : LineAddr, b ≠ a.extractLsb' 0 7 → u.station b = s.due.station b)) ∧
    (s.due.slot 0 = none → s.due.slot 1 = none → ∃ u : State, exec (.fence false t a) s = .next u ∧
      u.cmd.head = .reporting ∧ u.slots = s.due.slots ∧
      u.cq.holding = [{ kind := .commandDone, waiter := .command, code := .ok, index := t }]) ∧
    (s.due.anySlot = true → ∃ u : State, exec (.fence false t a) s = .next u ∧ u.cmd.head = .fencing ∧
      u.cq.holding = [] ∧ ∀ (k : Fin 2) (m : Message), s.due.slot k = some m →
        u.slot k = some { m with fenced := true }) ∧
    (s.due.line.role = .anchor →
      exec (.lineBreak false t a) s = .next (s.due.setCmd { s.due.cmd with
        queue := [{ op := 4, notify := false, tag := t, arg := a }], head := .waiting }) ∧
      exec (.syncAll false t a) s = .next (s.due.setCmd { s.due.cmd with
        queue := [{ op := 5, notify := false, tag := t, arg := a }], head := .waiting })) ∧
    (s.due.line.role = .member → ∃ u : State, exec (.lineBreak false t a) s = .next u ∧
      exec (.syncAll false t a) s = .next u ∧
      u.cmd = { s.due.cmd with err := true, errCode := .role, errTag := t }) ∧
    (∀ op : BitVec 4, 9 ≤ op.toNat → ∃ u : State, exec (.illegalCommand op false t a) s = .next u ∧
      u.cmd = { s.due.cmd with err := true, errCode := .illegal, errTag := t } ∧
      u.glb.intstat = s.due.glb.intstat ||| IrqCause.cmderr.mask ∧ u.cq.holding = [])

/-! ## Fault releases -/

/-- The release of a staging fault: RESUME returns the ring to Running, SKIP does so with a SKIPPED entry, HOLD stops it
with its notice; the record is emptied where none is pending (R106, R155, R156). A fault posted to an empty Fault Unit enters
the record at once; one posted while another is presented waits in the place of its source, and displaces and notifies nothing
(R152, R153), as a staging fault shows. FLTPEND shows the places (R152). -/
def Obligations.StagingFaultReleased : Prop :=
  (∀ (s : State) (f g : FaultRecord),
    (s.flt = {} → s.post f =
      (s.setFlt { record := some f }).setGlb { s.glb with intstat := s.glb.intstat ||| IrqCause.fault.mask }) ∧
    (s.flt.record = some g →
      s.post f = s.setFlt { s.flt with waiting := s.flt.waiting.set f.source.code (some f) })) ∧
  (∀ (s : State) (i : Fin 7), (s.readAt .word 0x230).getLsbD i.val = (s.flt.waiting[i]).isSome ∧
    (s.readAt .word 0x230).extractLsb' 7 25 = 0#25) ∧
  (∀ (s : State) (k : Fin 2) (m : Message) (g : FaultRecord), s.due.awake = true → .fetch ∈ s.due.inFlight →
    s.due.StagedIn k m .fetch → s.due.flt.record = some g → ∃ u : State,
      exec (.fetchComplete .live .error) s = .next u.settle ∧ u.slot k = none ∧
      u.ring m.ring = { s.due.ring m.ring with state := .faulted } ∧ u.glb = s.due.glb ∧ u.flt.record = some g ∧
      u.flt.waiting = s.due.flt.waiting.set (Source.tx m.ring).code (some {
        source := .tx m.ring, kind := .descBus, phase := .fetch, index := m.index, chan := 0,
        addr := m.txn, ioc := m.ioc, cookie := m.cookie })) ∧
  ∀ (s : State) (f : FaultRecord) (n : Fin 4), s.due.live = true → s.due.flt = { record := some f } →
    f.source = .tx n → f.phase ≠ .finish →
    (∃ u : State, exec .resume s = .next u.settle ∧ u.ring n = { s.due.ring n with state := .running } ∧
      u.cq = s.due.cq ∧ u.flt = {} ∧ u.glb = s.due.glb) ∧
    (∃ u : State, exec .skip s = .next u.settle ∧ u.ring n = { s.due.ring n with state := .running } ∧ u.flt = {} ∧
      u.cq.holding = s.due.cq.holding ++ [{
        kind := .message, waiter := .skipped true, ring := n, code := .skipped, index := f.index, ioc := f.ioc,
        cookie := f.cookie, chan := f.chan }]) ∧
    (∃ u : State, exec .hold s = .next u.settle ∧ u.ring n = { s.due.ring n with state := .stopped } ∧ u.flt = {} ∧
      u.cq.holding = s.due.cq.holding ++ [{
        kind := .ringStopped, waiter := .notice, ring := n, index := (s.due.ring n).cons }])

/-- The releases of a FINISH fault, of a receive fault and of a CQ fault, and the acknowledgement of an INTEG fault (R111,
R129, R139, R156, R157); with no fault presented, and HOLD on a CQ fault, nothing changes but GSTAT.RELERR (R158). Where
faults are pending, an accepted release presents the one of the highest class, and among these of the earliest source, and
sets INTSTAT.FAULT; the others wait on (R153, R155). -/
def Obligations.OtherFaultsReleased : Prop :=
  (∀ s : State, s.due.live = true →
    (s.due.flt.record = none → ∀ c : Instr, c = .resume ∨ c = .skip ∨ c = .hold →
      exec c s = .next (s.due.setGlb { s.due.glb with relErr := true }).settle) ∧
    (∀ f : FaultRecord, s.due.flt.record = some f → f.source = .cq →
      exec .hold s = .next (s.due.setGlb { s.due.glb with relErr := true }).settle)) ∧
  (∀ (s : State) (f g : FaultRecord) (i : Fin 7), s.due.live = true → s.due.flt.record = some f →
    s.due.flt.Next i g →
    (∀ (n : Fin 4) (k : Fin 2) (m : Message), f.source = .tx n → f.phase = .finish →
      s.due.faultedSlot n = some k → s.due.slot k = some m → m.sound = true) →
    ∀ c : Instr, c = .resume ∨ c = .skip ∨ (c = .hold ∧ f.source ≠ .cq) → ∃ u : State, exec c s = .next u.settle ∧
      u.flt = { record := some g, waiting := s.due.flt.waiting.set i none } ∧
      u.glb = { s.due.glb with intstat := s.due.glb.intstat ||| IrqCause.fault.mask }) ∧
  ∀ (s : State) (f : FaultRecord), s.due.live = true → s.due.flt = { record := some f } →
    (f.source = .rx →
      exec .resume s = .next ((s.due.setRxp { s.due.rxp with faulted := false }).setFlt {}).settle ∧
      (∃ u : State, exec .skip s = .next u.settle ∧
        u.rxp = { s.due.rxp with faulted := false, buffers := s.due.rxp.buffers.tail } ∧ u.flt = {} ∧
        u.counters.rxdrop = satInc s.due.counters.rxdrop) ∧
      exec .hold s = .next ((s.due.setRxp { s.due.rxp with faulted := false, en := false }).setFlt {}).settle) ∧
    (f.source = .cq → exec .resume s = .next (s.due.setFlt {}).settle ∧
      ∀ (e : Entry) (rest : List Entry), s.due.cq.holding = e :: rest → e.waiter = .notice →
        ∃ u : State, exec .skip s = .next u.settle ∧ u.cq = { s.due.cq with holding := rest, blocking := false } ∧
          u.flt = {}) ∧
    (f.source = .cq → ∀ (e : Entry) (rest : List Entry), s.due.cq.holding = e :: rest →
      (s.due.ring e.ring).state ≠ .stopping →
      let advanced : Ring := { s.due.ring e.ring with
        cons := nextIndex (s.due.ring e.ring).cons (s.due.ring e.ring).size }
      ∃ u : State, exec .skip s = .next u.settle ∧ u.cq = { s.due.cq with holding := rest, blocking := false } ∧
        u.flt = {} ∧
        (∀ k : Fin 2, e.waiter = .slot k → u.slot k = none ∧ u.ring e.ring = advanced ∧ u.cmd = s.due.cmd) ∧
        (e.waiter = .skipped true → u.slots = s.due.slots ∧ u.ring e.ring = advanced) ∧
        (e.waiter = .command → u.rings = s.due.rings ∧
          u.cmd = { s.due.cmd with queue := s.due.cmd.queue.tail, head := .fresh })) ∧
    (∀ (n : Fin 4) (k : Fin 2) (m : Message), f.source = .tx n → f.phase = .finish →
      s.due.faultedSlot n = some k → s.due.slot k = some m → m.sound = true →
      let gaveUp : Message := { m with wbFailed := true }
      (∃ u : State, exec .resume s = .next u.settle ∧ u.flt = {} ∧ u.cq = s.due.cq ∧
        u.ring n = { s.due.ring n with state := (s.due.ring n).before } ∧
        u.slot k = some { m with phase := .finishing .errWrite }) ∧
      (∃ u : State, exec .skip s = .next u.settle ∧ u.flt = {} ∧
        u.ring n = { s.due.ring n with state := (s.due.ring n).before } ∧
        u.slot k = some { gaveUp with phase := .finishing .held } ∧
        u.cq.holding = s.due.cq.holding ++ [gaveUp.entry k]) ∧
      (∃ u : State, exec .hold s = .next u.settle ∧ u.flt = {} ∧
        u.ring n = { s.due.ring n with state := .stopping } ∧
        u.slot k = some { gaveUp with phase := .finishing .held } ∧
        u.cq.holding = s.due.cq.holding ++ [gaveUp.entry k])) ∧
    (f.source = .integ → ∀ c : Instr, c = .resume ∨ c = .skip ∨ c = .hold →
      exec c s = .next (s.due.setFlt {}).settle)

/-! ## Registers -/

/-- The three doorbells: a value below the size is stored, any other only sets DBERR; a dozing controller wakes first (R100,
R119, R132, R169). -/
def Obligations.DoorbellsRung : Prop :=
  ∀ (s : State) (n : Fin 4) (v : Word), s.due.live = true →
    let w : State := s.due.wakeWrite
    let err : State := w.setGlb { w.glb with intstat := w.glb.intstat ||| IrqCause.dberr.mask }
    exec (.txDoorbell n v) s = .next (if v.toNat < 2 ^ (w.ring n).size.toNat
      then w.setRing n { w.ring n with prod := v.extractLsb' 0 8 } else err).settle ∧
    exec (.rxDoorbell v) s = .next (if v.toNat < 2 ^ w.rxp.size.toNat
      then w.setRxp { w.rxp with prod := v.extractLsb' 0 8 } else err).settle ∧
    exec (.cqheadWrite v) s = .next (if v.toNat < 2 ^ w.cq.size.toNat
      then w.setCq { w.cq with head := v.extractLsb' 0 10 } else err).settle

/-- The three size writes: locked they only set LOCKWR; accepted they store a legal size and bring the indices to 0, and a
CQSIZE write sets the phase and clears moderation (R99, R118, R131, R176). -/
def Obligations.SizeWrites : Prop :=
  ∀ (s : State) (n : Fin 4) (v : Word), s.due.live = true →
    let lock : State := s.due.setGlb { s.due.glb with lockWr := true }
    ((s.due.ring n).state ≠ .stopped → exec (.txsizeWrite n v) s = .next lock.settle) ∧
    ((s.due.ring n).state = .stopped → ∃ u : State, exec (.txsizeWrite n v) s = .next u.settle ∧
      u.ring n = { s.due.ring n with size := clampRingSize v, prod := 0, cons := 0 } ∧
      2 ≤ (u.ring n).size.toNat ∧ (u.ring n).size.toNat ≤ 8) ∧
    (s.due.rxLocked = true → exec (.rxsizeWrite v) s = .next lock.settle) ∧
    (s.due.rxLocked = false → exec (.rxsizeWrite v) s =
      .next (s.due.setRxp { s.due.rxp with size := clampRingSize v, prod := 0, cons := 0 }).settle) ∧
    (s.due.cqLocked = true → exec (.cqsizeWrite v) s = .next lock.settle) ∧
    (s.due.cqLocked = false → exec (.cqsizeWrite v) s = .next (s.due.setCq { s.due.cq with
      size := clampQueueSize v, head := 0, tail := 0, phase := true, unsignalled := 0, timer := none }).settle)

/-- LINKCTL writes: EN = 1 in Disabled leads to Idle and activates the receiver, EN = 0 in Idle leads to Disabled and
deactivates it, POLLEN from 0 to 1 sets PTR and ROUND to 0, and from 1 to 0 abandons a pause (R5, R32, R43, R61, R71). EN = 0
in Guard cancels the decision or reply, which leaves its message as it was while its ring runs (R36); in Awaiting it fails the
attempt or poll with LINK_OFF; in Sending and Breaking it is only kept, and the end of the frame, an attempt then failing with
LINK_OFF, or of the break leads to Disabled (R46, R48, R61). That a cancelled decision has gone to Disabled even where reading
its message for STOPPED then halts the controller, and the address of the Err write, are the model's choices (logs 43 and
46). -/
def Obligations.LinkControlWrites : Prop :=
  (∀ (s : State) (p : Bool), s.due.awake = true → s.due.link.en = true →
    (s.due.link.state = .guard → s.due.tx.phase = .off → ∃ u : State, exec (.linkDisable p) s = .next u.settle ∧
      u.link.en = false ∧ u.link.state = .disabled ∧ u.link.x = {} ∧ u.lde = false ∧ u.rx.active = false ∧
      u.stn = s.due.stn ∧ u.cmd = s.due.cmd ∧ u.counters = s.due.counters ∧
      ((∀ (k : Fin 2) (m : Message), s.due.link.x.slot = some k → s.due.slot k = some m →
        (s.due.ring m.ring).state ≠ .stopping) → u.slots = s.due.slots ∧ u.halted = false)) ∧
    (s.due.link.state = .sending ∨ s.due.link.state = .breaking → ∃ u : State,
      exec (.linkDisable p) s = .next u.settle ∧ u.link.en = false ∧ u.link.state = s.due.link.state ∧
      u.link.x = s.due.link.x ∧ u.link.offPending = true ∧ u.tx = s.due.tx ∧ u.rx = s.due.rx ∧
      u.slots = s.due.slots ∧ u.stn = s.due.stn) ∧
    (s.due.link.state = .awaiting → s.due.line.role = .anchor → s.due.exchangeUnsound = none →
      s.due.link.x.station ≠ 0 → s.due.link.x.station ≠ 127 →
      let a : LineAddr := s.due.link.x.station
      let failed : Station := { s.due.station a with errCount := satInc (s.due.station a).errCount }
      (s.due.link.x.kind = .poll → ∃ u : State, exec (.linkDisable p) s = .next u.settle ∧
        u.link.state = .disabled ∧ u.slots = s.due.slots ∧ u.station a = failed) ∧
      (∀ (k : Fin 2) (m : Message) (n : Snapshot), s.due.link.x.kind = .outbound → s.due.link.x.slot = some k →
        s.due.slot k = some m → s.due.ReadyIn m n →
        let m1 : Message := { m with attempts := m.attempts + 1, lastCause := .linkOff }
        let last : Prop := m.attempts = n.e.retry.toNat ∨ s.due.link.x.beganSilent = true
        ∃ u : State, exec (.linkDisable p) s = .next u.settle ∧ u.link.state = .disabled ∧
          u.counters = s.due.counters ∧
          (¬last → u.slot k = some m1 ∧ u.station a = failed) ∧
          (last → u.station a = { failed with resyncNeeded := true } ∧ u.slot k = some
            { m1 with code := .noReply, phase := .finishing .errWrite, txn := n.addr + 7 })))) ∧
  (∀ s : State, s.due.awake = true → s.due.link.en = false →
    (s.due.tx.phase = .frame → s.due.tx.afterBreak = false → s.due.tx.contention = false →
      s.due.link.state = .sending →
      (s.due.link.x.isAttempt = false → s.due.link.x.kind ≠ .syncAll → ∃ u : State,
        exec .frameSent s = .next u.settle ∧ u.lde = false ∧ u.link.state = .disabled ∧ u.rx.active = false ∧
        u.stn = s.due.stn ∧ u.slots = s.due.slots) ∧
      (∀ (k : Fin 2) (m : Message) (n : Snapshot), s.due.line.role = .anchor → s.due.exchangeUnsound = none →
        s.due.link.x.kind = .outbound → s.due.link.x.slot = some k → s.due.slot k = some m → s.due.ReadyIn m n →
        m.attempts ≠ n.e.retry.toNat → s.due.link.x.beganSilent = false → ∃ u : State,
        exec .frameSent s = .next u.settle ∧ u.lde = false ∧ u.link.state = .disabled ∧ u.rx.active = false ∧
        u.slot k = some { m with attempts := m.attempts + 1, lastCause := .linkOff })) ∧
    (s.due.tx.phase = .brk → s.due.link.state = .breaking →
      (s.due.line.brkSync = true → s.due.line.role = .anchor → s.due.stationsUnsound = false) → ∃ u : State,
      exec .breakSent s = .next u.settle ∧ u.lde = false ∧ u.link.state = .disabled ∧ u.rx.active = false)) ∧
  ∀ s : State, s.due.awake = true →
    (∀ p : Bool, s.due.link.state = .disabled → ∃ u : State, exec (.linkEnable p) s = .next u.settle ∧
      u.link.en = true ∧ u.link.pollen = p ∧ u.link.state = .idle ∧ u.rx.active = true ∧
      (s.due.line.role = .anchor → u.link.outbound = 0)) ∧
    (∀ p : Bool, s.due.link.state = .idle → s.due.link.en = true → s.due.tx.phase = .off →
      ∃ u : State, exec (.linkDisable p) s = .next u.settle ∧ u.link.en = false ∧ u.link.pollen = p ∧
        u.link.state = .disabled ∧ u.link.outbound = 0 ∧ u.link.pause = none ∧ u.rx.active = false ∧
        u.frx.state = .hunt ∧ u.slots = s.due.slots ∧ u.stn = s.due.stn ∧ u.listen = s.due.listen) ∧
    (∀ e : Bool, s.due.link.pollen = false → ∃ u : State, exec (.pollEnable e) s = .next u.settle ∧
      u.link.pollen = true ∧ u.poll = { s.due.poll with ptr := 0, round := 0 }) ∧
    (∀ e : Bool, s.due.link.pollen = true → ∃ u : State, exec (.pollDisable e) s = .next u.settle ∧
      u.link.pollen = false ∧ u.link.pause = none ∧ u.poll = s.due.poll)

/-- The plain register writes of Run, Doze-Pending and Doze (R66 to R68, R74, R120, R127, R140, R149, R176, R177). That a
write of STNDAT or of an LSNk, one that changes nothing included, leaves the entry sound is read from R159 (log 28). -/
def Obligations.PlainRegisterWrites : Prop :=
  ∀ (s : State) (v : Word), s.due.live = true →
    exec .rxEnable s = .next (s.due.setRxp { s.due.rxp with en := true }).settle ∧
    exec .rxDisable s = .next (s.due.setRxp { s.due.rxp with en := false }).settle ∧
    exec (.gstatClear v) s = .next (s.due.setGlb { s.due.glb with
      lockWr := s.due.glb.lockWr && !v.getLsbD 4, relErr := s.due.glb.relErr && !v.getLsbD 5 }).settle ∧
    exec (.cmdstatClear v) s =
      .next (s.due.setCmd { s.due.cmd with err := s.due.cmd.err && !v.getLsbD 8 }).settle ∧
    (∀ m : Fin 4, ∃ u : State, exec (.stnchgClear m v) s = .next u.settle ∧ u.stn.records = s.due.stn.records ∧
      ∀ a : LineAddr, u.stn.changed.getLsbD a.toNat =
        (s.due.stn.changed.getLsbD a.toNat && !(a.toNat / 32 == m.val && v.getLsbD (a.toNat % 32)))) ∧
    (s.due.stn.sel ≠ 0 → s.due.stn.sel ≠ 127 → ∃ u : State, exec (.stndatWrite v) s = .next u.settle ∧
      u.station s.due.stn.sel = { s.due.station s.due.stn.sel with accept := v.getLsbD 2, sound := true } ∧
      ∀ b : LineAddr, b ≠ s.due.stn.sel → u.station b = s.due.station b) ∧
    (s.due.stn.sel = 0 ∨ s.due.stn.sel = 127 → exec (.stndatWrite v) s = .next s.due.settle) ∧
    (∀ k : Fin 4, s.due.link.en = true →
      exec (.lsnWrite k v) s = .next (s.due.setGlb { s.due.glb with lockWr := true }).settle) ∧
    (∀ k : Fin 4, s.due.link.en = false →
      ((s.due.lsn k).address ≠ v.extractLsb' 0 7 ∨ (s.due.lsn k).enabled ≠ v.getLsbD 8) →
      exec (.lsnWrite k v) s =
        .next (s.due.setLsn k { address := v.extractLsb' 0 7, enabled := v.getLsbD 8 }).settle) ∧
    (∀ k : Fin 4, s.due.link.en = false → (s.due.lsn k).address = v.extractLsb' 0 7 →
      (s.due.lsn k).enabled = v.getLsbD 8 →
      exec (.lsnWrite k v) s = .next (s.due.setLsn k { s.due.lsn k with sound := true }).settle) ∧
    (∃ u : State, exec (.cqmodWrite v) s = .next u.settle ∧ u.cq.count = v.extractLsb' 0 8 ∧
      u.cq.delay = v.extractLsb' 8 8 ∧ u.cq.unsignalled = s.due.cq.unsignalled ∧
      (v.extractLsb' 8 8 = 0#8 → u.cq.timer = none) ∧
      (v.extractLsb' 8 8 ≠ 0#8 → s.due.cq.unsignalled ≠ 0 → u.cq.timer = some 0))

/-- The writes that Halt lets through: counters are cleared, INTEN is stored, INTSTAT is cleared bit by bit but for HALT in
Halt, and the INT output follows (R16, R141, R142, R162). -/
def Obligations.InterruptAndCounterWrites : Prop :=
  ∀ (s : State) (v : Word), s.due.held = false →
    (∀ c : Counter, ∃ t : State, exec (.counterClear c v) s = .next t ∧ t.counters.get c = 0 ∧ t.glb = s.due.glb ∧
      ∀ e : Counter, e ≠ c → t.counters.get e = s.due.counters.get e) ∧
    (∃ t : State, exec (.intenWrite v) s = .next t ∧
      t.glb = { s.due.glb with inten := v.extractLsb' 0 10 } ∧
      t.intPin = (s.due.glb.intstat &&& v.extractLsb' 0 10 != 0 || s.due.halted)) ∧
    (∃ t : State, exec (.intstatClear v) s = .next t ∧ t.glb.inten = s.due.glb.inten ∧
      (s.due.halted = false → t.glb.intstat = s.due.glb.intstat &&& ~~~(v.extractLsb' 0 10)) ∧
      (s.due.halted = true →
        t.glb.intstat = s.due.glb.intstat &&& ~~~(v.extractLsb' 0 10 &&& ~~~IrqCause.halt.mask) ∧
        t.glb.intstat &&& IrqCause.halt.mask = s.due.glb.intstat &&& IrqCause.halt.mask ∧ t.intPin = true))

/-- The two reads that are commands return the selected entry, in Halt and while the controller is held whatever its parity, or
halt the controller where it is unsound; the word returned then is free, which is the model's choice (R68, R74, R159, R160,
R162, R163, log 11). -/
def Obligations.ProtectedReads : Prop :=
  ∀ s : State,
    ((s.due.station s.due.stn.sel).sound = true ∨ s.due.halted = true ∨ s.due.held = true →
      exec .stndatRead s = .next (s.due.setRead (s.due.station s.due.stn.sel).image)) ∧
    ((s.due.station s.due.stn.sel).sound = false → s.due.halted = false → s.due.held = false → ∃ t : State,
      exec .stndatRead s = .next t ∧ t.glb.power = .halt ∧ t.glb.haltCause = .stationParity ∧ t.lde = false ∧
      t.intPin = true ∧ t.stn = s.due.stn ∧ t.link = s.due.link) ∧
    (∀ k : Fin 4, (s.due.lsn k).sound = true ∨ s.due.halted = true ∨ s.due.held = true →
      exec (.lsnRead k) s = .next (s.due.setRead (s.due.lsn k).image)) ∧
    (∀ k : Fin 4, (s.due.lsn k).sound = false → s.due.halted = false → s.due.held = false → ∃ t : State,
      exec (.lsnRead k) s = .next t ∧ t.glb.power = .halt ∧ t.glb.haltCause = .listenParity ∧ t.lde = false ∧
      t.intPin = true ∧ t.listen = s.due.listen ∧ t.rings = s.due.rings)

/-- REGISTER_WRITE: a narrow write and a write to an undefined offset are ignored (R173, R174); a locked write only sets
LOCKWR, and an accepted one stores its fields, for every configuration register that has no row of its own: LDIV, LCFG with
the rejection of a waiting line command or STATION RESET, LTIME, LLIM, PLCTL, PLISTi, STNSEL, MAPBASE, MAPLEN, TXBASEn, RXBASE
and CQBASE (R2, R13, R37, R64, R68, R70, R77, R99, R118, R131, R146, R176). -/
def Obligations.OtherRegisterWrites : Prop :=
  ∀ (s : State) (v : Word), s.due.live = true →
    let write (off : BitVec 12) : Host.Outcome State Fault Refusal := exec (.registerWrite .word off v) s
    let locked : Host.Outcome State Fault Refusal := .next (s.due.setGlb { s.due.glb with lockWr := true }).settle
    let role : Role := if v.getLsbD 0 = true then .member else .anchor
    (∀ off : BitVec 12, exec (.registerWrite .narrow off v) s = .next s.due ∧ (regAt off = none → write off = .next s.due)) ∧
    (s.due.link.en = true → ∀ off : BitVec 12, off = 0x020 ∨ off = 0x024 ∨ off = 0x028 ∨ off = 0x02C →
      write off = locked) ∧
    (s.due.link.en = false →
      (∃ u : State, write 0x020 = .next u.settle ∧
        u.readAt .word 0x020 = (if (v.extractLsb' 0 16).toNat < 4 then 4 else 0#16 ++ v.extractLsb' 0 16)) ∧
      write 0x028 = .next (s.due.setLine { s.due.line with
        guard := v.extractLsb' 0 8, replyWin := v.extractLsb' 16 12 }).settle ∧
      write 0x02C = .next (s.due.setLine { s.due.line with
        missLim := v.extractLsb' 0 4, burst := v.extractLsb' 8 4, anchTo := v.extractLsb' 16 8 }).settle ∧
      (s.due.anySlot = true → role ≠ s.due.line.role → write 0x024 = locked) ∧
      (role = s.due.line.role ∨ (s.due.anySlot = false ∧ s.due.cmd.queue = []) →
        write 0x024 = .next (s.due.setLine { s.due.line with
          role := role, stop2 := v.getLsbD 1, brkSync := v.getLsbD 2 }).settle) ∧
      (∀ (c : Cmd) (rest : List Cmd), role = .member → s.due.line.role = .anchor → s.due.anySlot = false →
        s.due.link.state = .disabled → s.due.cmd.queue = c :: rest → s.due.cmd.head = .waiting →
        c.op = 4 ∨ c.op = 5 ∨ c.op = 6 → c.notify = false →
        ∃ u : State, write 0x024 = .next u.settle ∧ u.line.role = .member ∧
          u.cmd = { s.due.cmd with queue := rest, head := .fresh, err := true, errCode := .role, errTag := c.tag } ∧
          u.glb.intstat = s.due.glb.intstat ||| IrqCause.cmderr.mask)) ∧
    (∀ i : BitVec 5,
      (s.due.link.pollen = true → write 0x040 = locked ∧ write (0x080 + 4 * i.setWidth 12) = locked) ∧
      (s.due.link.pollen = false →
        write 0x040 = .next (s.due.setPoll { s.due.poll with
          len := if 32 < (v.extractLsb' 0 6).toNat then 32 else v.extractLsb' 0 6 }).settle ∧
        ∃ u : State, write (0x080 + 4 * i.setWidth 12) = .next u.settle ∧
          u.poll.entries[i.toNat] = v.extractLsb' 0 7 ∧ u.poll.len = s.due.poll.len ∧
          ∀ j : BitVec 5, j ≠ i → u.poll.entries[j.toNat] = s.due.poll.entries[j.toNat])) ∧
    write 0x110 = .next (s.due.setStn { s.due.stn with sel := v.extractLsb' 0 7 }).settle ∧
    (∃ u : State, write 0x130 = .next u.settle ∧
      u.readAt .word 0x130 = v &&& 0xFFFFFFF8 ∧ u.map.cache = s.due.map.cache ∧ u.map.walk = s.due.map.walk) ∧
    (∃ u : State, write 0x134 = .next u.settle ∧
      u.readAt .word 0x134 = (if 4096 < (v.extractLsb' 0 13).toNat then 4096 else 0#19 ++ v.extractLsb' 0 13) ∧
      u.map.cache = s.due.map.cache ∧ u.map.walk = s.due.map.walk) ∧
    (∀ n : Fin 4,
      ((s.due.ring n).state ≠ .stopped → write (BitVec.ofNat 12 (0x140 + 0x20 * n.val)) = locked) ∧
      ((s.due.ring n).state = .stopped → write (BitVec.ofNat 12 (0x140 + 0x20 * n.val)) =
        .next (s.due.setRing n { s.due.ring n with base := v &&& 0xFFFFFFF0 }).settle)) ∧
    write 0x1C0 = (if s.due.rxLocked = true then locked
      else .next (s.due.setRxp { s.due.rxp with base := v &&& 0xFFFFFFF0 }).settle) ∧
    write 0x1E0 = (if s.due.cqLocked = true then locked
      else .next (s.due.setCq { s.due.cq with base := v &&& 0xFFFFFFF0 }).settle)

/-! ## Invariants of every step -/

/-- Every step keeps the command queue, the receive buffers and the cache within their places (R80, R122, R144). -/
def Obligations.BuffersFitKept : Prop :=
  ∀ s t : State, s.BuffersFit → step s = .next t → t.BuffersFit

/-- Every step keeps the configuration registers legal and every index inside its ring or queue (R2, R70, R77, R99, R100,
R118, R119, R131, R132). -/
def Obligations.RegistersLegalKept : Prop :=
  ∀ s t : State, s.ConfigLegal → s.IndicesFit → step s = .next t → t.ConfigLegal ∧ t.IndicesFit

/-- Every step leaves records 0 and 127 of the Station Table all zeros; and in member role no row that happens inside the
controller, while no command is queued, changes any record, the presence-change set or STNSEL (R62). -/
def Obligations.ReservedRecordsKept : Prop :=
  (∀ s t : State, s.RecordsReserved → step s = .next t → t.RecordsReserved) ∧
    ∀ (c : Instr) (s t : State), c.internal = true → s.line.role = .member → s.cmd.queue = [] →
      exec c s = .next t → t.stn = s.stn

/-- The invariants hold after reset. -/
def Obligations.ResetMeetsInvariants : Prop :=
  State.reset.BuffersFit ∧ State.reset.ConfigLegal ∧ State.reset.IndicesFit ∧ State.reset.RecordsReserved ∧
    State.reset.LineReleased
end

