-- ==== Sys2Proof/Laws/State.lean ====
section
/-! SUPPORT. What each update of one block leaves of every field: true by computation, so that no proof unfolds an update. -/

namespace Sys2Proof.Machine

variable (s : State)

@[simp] theorem State.setGlb_pending (v : Global) : (s.setGlb v).pending = s.pending := rfl
@[simp] theorem State.setGlb_upsets (v : Global) : (s.setGlb v).upsets = s.upsets := rfl
@[simp] theorem State.setGlb_readData (v : Global) : (s.setGlb v).readData = s.readData := rfl
@[simp] theorem State.setGlb_freeIndex (v : Global) : (s.setGlb v).freeIndex = s.freeIndex := rfl
@[simp] theorem State.setGlb_glb (v : Global) : (s.setGlb v).glb = v := rfl
@[simp] theorem State.setGlb_line (v : Global) : (s.setGlb v).line = s.line := rfl
@[simp] theorem State.setGlb_counters (v : Global) : (s.setGlb v).counters = s.counters := rfl
@[simp] theorem State.setGlb_rx (v : Global) : (s.setGlb v).rx = s.rx := rfl
@[simp] theorem State.setGlb_tx (v : Global) : (s.setGlb v).tx = s.tx := rfl
@[simp] theorem State.setGlb_frx (v : Global) : (s.setGlb v).frx = s.frx := rfl
@[simp] theorem State.setGlb_wakeDet (v : Global) : (s.setGlb v).wakeDet = s.wakeDet := rfl
@[simp] theorem State.setGlb_link (v : Global) : (s.setGlb v).link = s.link := rfl
@[simp] theorem State.setGlb_poll (v : Global) : (s.setGlb v).poll = s.poll := rfl
@[simp] theorem State.setGlb_stn (v : Global) : (s.setGlb v).stn = s.stn := rfl
@[simp] theorem State.setGlb_listen (v : Global) : (s.setGlb v).listen = s.listen := rfl
@[simp] theorem State.setGlb_map (v : Global) : (s.setGlb v).map = s.map := rfl
@[simp] theorem State.setGlb_rings (v : Global) : (s.setGlb v).rings = s.rings := rfl
@[simp] theorem State.setGlb_slots (v : Global) : (s.setGlb v).slots = s.slots := rfl
@[simp] theorem State.setGlb_rxp (v : Global) : (s.setGlb v).rxp = s.rxp := rfl
@[simp] theorem State.setGlb_cq (v : Global) : (s.setGlb v).cq = s.cq := rfl
@[simp] theorem State.setGlb_cmd (v : Global) : (s.setGlb v).cmd = s.cmd := rfl
@[simp] theorem State.setGlb_flt (v : Global) : (s.setGlb v).flt = s.flt := rfl
@[simp] theorem State.setGlb_bus (v : Global) : (s.setGlb v).bus = s.bus := rfl

@[simp] theorem State.setLine_pending (v : LineRegs) : (s.setLine v).pending = s.pending := rfl
@[simp] theorem State.setLine_upsets (v : LineRegs) : (s.setLine v).upsets = s.upsets := rfl
@[simp] theorem State.setLine_readData (v : LineRegs) : (s.setLine v).readData = s.readData := rfl
@[simp] theorem State.setLine_freeIndex (v : LineRegs) : (s.setLine v).freeIndex = s.freeIndex := rfl
@[simp] theorem State.setLine_glb (v : LineRegs) : (s.setLine v).glb = s.glb := rfl
@[simp] theorem State.setLine_line (v : LineRegs) : (s.setLine v).line = v := rfl
@[simp] theorem State.setLine_counters (v : LineRegs) : (s.setLine v).counters = s.counters := rfl
@[simp] theorem State.setLine_rx (v : LineRegs) : (s.setLine v).rx = s.rx := rfl
@[simp] theorem State.setLine_tx (v : LineRegs) : (s.setLine v).tx = s.tx := rfl
@[simp] theorem State.setLine_frx (v : LineRegs) : (s.setLine v).frx = s.frx := rfl
@[simp] theorem State.setLine_wakeDet (v : LineRegs) : (s.setLine v).wakeDet = s.wakeDet := rfl
@[simp] theorem State.setLine_link (v : LineRegs) : (s.setLine v).link = s.link := rfl
@[simp] theorem State.setLine_poll (v : LineRegs) : (s.setLine v).poll = s.poll := rfl
@[simp] theorem State.setLine_stn (v : LineRegs) : (s.setLine v).stn = s.stn := rfl
@[simp] theorem State.setLine_listen (v : LineRegs) : (s.setLine v).listen = s.listen := rfl
@[simp] theorem State.setLine_map (v : LineRegs) : (s.setLine v).map = s.map := rfl
@[simp] theorem State.setLine_rings (v : LineRegs) : (s.setLine v).rings = s.rings := rfl
@[simp] theorem State.setLine_slots (v : LineRegs) : (s.setLine v).slots = s.slots := rfl
@[simp] theorem State.setLine_rxp (v : LineRegs) : (s.setLine v).rxp = s.rxp := rfl
@[simp] theorem State.setLine_cq (v : LineRegs) : (s.setLine v).cq = s.cq := rfl
@[simp] theorem State.setLine_cmd (v : LineRegs) : (s.setLine v).cmd = s.cmd := rfl
@[simp] theorem State.setLine_flt (v : LineRegs) : (s.setLine v).flt = s.flt := rfl
@[simp] theorem State.setLine_bus (v : LineRegs) : (s.setLine v).bus = s.bus := rfl

@[simp] theorem State.setCounters_pending (v : Counters) : (s.setCounters v).pending = s.pending := rfl
@[simp] theorem State.setCounters_upsets (v : Counters) : (s.setCounters v).upsets = s.upsets := rfl
@[simp] theorem State.setCounters_readData (v : Counters) : (s.setCounters v).readData = s.readData := rfl
@[simp] theorem State.setCounters_freeIndex (v : Counters) : (s.setCounters v).freeIndex = s.freeIndex := rfl
@[simp] theorem State.setCounters_glb (v : Counters) : (s.setCounters v).glb = s.glb := rfl
@[simp] theorem State.setCounters_line (v : Counters) : (s.setCounters v).line = s.line := rfl
@[simp] theorem State.setCounters_counters (v : Counters) : (s.setCounters v).counters = v := rfl
@[simp] theorem State.setCounters_rx (v : Counters) : (s.setCounters v).rx = s.rx := rfl
@[simp] theorem State.setCounters_tx (v : Counters) : (s.setCounters v).tx = s.tx := rfl
@[simp] theorem State.setCounters_frx (v : Counters) : (s.setCounters v).frx = s.frx := rfl
@[simp] theorem State.setCounters_wakeDet (v : Counters) : (s.setCounters v).wakeDet = s.wakeDet := rfl
@[simp] theorem State.setCounters_link (v : Counters) : (s.setCounters v).link = s.link := rfl
@[simp] theorem State.setCounters_poll (v : Counters) : (s.setCounters v).poll = s.poll := rfl
@[simp] theorem State.setCounters_stn (v : Counters) : (s.setCounters v).stn = s.stn := rfl
@[simp] theorem State.setCounters_listen (v : Counters) : (s.setCounters v).listen = s.listen := rfl
@[simp] theorem State.setCounters_map (v : Counters) : (s.setCounters v).map = s.map := rfl
@[simp] theorem State.setCounters_rings (v : Counters) : (s.setCounters v).rings = s.rings := rfl
@[simp] theorem State.setCounters_slots (v : Counters) : (s.setCounters v).slots = s.slots := rfl
@[simp] theorem State.setCounters_rxp (v : Counters) : (s.setCounters v).rxp = s.rxp := rfl
@[simp] theorem State.setCounters_cq (v : Counters) : (s.setCounters v).cq = s.cq := rfl
@[simp] theorem State.setCounters_cmd (v : Counters) : (s.setCounters v).cmd = s.cmd := rfl
@[simp] theorem State.setCounters_flt (v : Counters) : (s.setCounters v).flt = s.flt := rfl
@[simp] theorem State.setCounters_bus (v : Counters) : (s.setCounters v).bus = s.bus := rfl

@[simp] theorem State.setRx_pending (v : LineRx) : (s.setRx v).pending = s.pending := rfl
@[simp] theorem State.setRx_upsets (v : LineRx) : (s.setRx v).upsets = s.upsets := rfl
@[simp] theorem State.setRx_readData (v : LineRx) : (s.setRx v).readData = s.readData := rfl
@[simp] theorem State.setRx_freeIndex (v : LineRx) : (s.setRx v).freeIndex = s.freeIndex := rfl
@[simp] theorem State.setRx_glb (v : LineRx) : (s.setRx v).glb = s.glb := rfl
@[simp] theorem State.setRx_line (v : LineRx) : (s.setRx v).line = s.line := rfl
@[simp] theorem State.setRx_counters (v : LineRx) : (s.setRx v).counters = s.counters := rfl
@[simp] theorem State.setRx_rx (v : LineRx) : (s.setRx v).rx = v := rfl
@[simp] theorem State.setRx_tx (v : LineRx) : (s.setRx v).tx = s.tx := rfl
@[simp] theorem State.setRx_frx (v : LineRx) : (s.setRx v).frx = s.frx := rfl
@[simp] theorem State.setRx_wakeDet (v : LineRx) : (s.setRx v).wakeDet = s.wakeDet := rfl
@[simp] theorem State.setRx_link (v : LineRx) : (s.setRx v).link = s.link := rfl
@[simp] theorem State.setRx_poll (v : LineRx) : (s.setRx v).poll = s.poll := rfl
@[simp] theorem State.setRx_stn (v : LineRx) : (s.setRx v).stn = s.stn := rfl
@[simp] theorem State.setRx_listen (v : LineRx) : (s.setRx v).listen = s.listen := rfl
@[simp] theorem State.setRx_map (v : LineRx) : (s.setRx v).map = s.map := rfl
@[simp] theorem State.setRx_rings (v : LineRx) : (s.setRx v).rings = s.rings := rfl
@[simp] theorem State.setRx_slots (v : LineRx) : (s.setRx v).slots = s.slots := rfl
@[simp] theorem State.setRx_rxp (v : LineRx) : (s.setRx v).rxp = s.rxp := rfl
@[simp] theorem State.setRx_cq (v : LineRx) : (s.setRx v).cq = s.cq := rfl
@[simp] theorem State.setRx_cmd (v : LineRx) : (s.setRx v).cmd = s.cmd := rfl
@[simp] theorem State.setRx_flt (v : LineRx) : (s.setRx v).flt = s.flt := rfl
@[simp] theorem State.setRx_bus (v : LineRx) : (s.setRx v).bus = s.bus := rfl

@[simp] theorem State.setTx_pending (v : LineTx) : (s.setTx v).pending = s.pending := rfl
@[simp] theorem State.setTx_upsets (v : LineTx) : (s.setTx v).upsets = s.upsets := rfl
@[simp] theorem State.setTx_readData (v : LineTx) : (s.setTx v).readData = s.readData := rfl
@[simp] theorem State.setTx_freeIndex (v : LineTx) : (s.setTx v).freeIndex = s.freeIndex := rfl
@[simp] theorem State.setTx_glb (v : LineTx) : (s.setTx v).glb = s.glb := rfl
@[simp] theorem State.setTx_line (v : LineTx) : (s.setTx v).line = s.line := rfl
@[simp] theorem State.setTx_counters (v : LineTx) : (s.setTx v).counters = s.counters := rfl
@[simp] theorem State.setTx_rx (v : LineTx) : (s.setTx v).rx = s.rx := rfl
@[simp] theorem State.setTx_tx (v : LineTx) : (s.setTx v).tx = v := rfl
@[simp] theorem State.setTx_frx (v : LineTx) : (s.setTx v).frx = s.frx := rfl
@[simp] theorem State.setTx_wakeDet (v : LineTx) : (s.setTx v).wakeDet = s.wakeDet := rfl
@[simp] theorem State.setTx_link (v : LineTx) : (s.setTx v).link = s.link := rfl
@[simp] theorem State.setTx_poll (v : LineTx) : (s.setTx v).poll = s.poll := rfl
@[simp] theorem State.setTx_stn (v : LineTx) : (s.setTx v).stn = s.stn := rfl
@[simp] theorem State.setTx_listen (v : LineTx) : (s.setTx v).listen = s.listen := rfl
@[simp] theorem State.setTx_map (v : LineTx) : (s.setTx v).map = s.map := rfl
@[simp] theorem State.setTx_rings (v : LineTx) : (s.setTx v).rings = s.rings := rfl
@[simp] theorem State.setTx_slots (v : LineTx) : (s.setTx v).slots = s.slots := rfl
@[simp] theorem State.setTx_rxp (v : LineTx) : (s.setTx v).rxp = s.rxp := rfl
@[simp] theorem State.setTx_cq (v : LineTx) : (s.setTx v).cq = s.cq := rfl
@[simp] theorem State.setTx_cmd (v : LineTx) : (s.setTx v).cmd = s.cmd := rfl
@[simp] theorem State.setTx_flt (v : LineTx) : (s.setTx v).flt = s.flt := rfl
@[simp] theorem State.setTx_bus (v : LineTx) : (s.setTx v).bus = s.bus := rfl

@[simp] theorem State.setFrx_pending (v : Frx) : (s.setFrx v).pending = s.pending := rfl
@[simp] theorem State.setFrx_upsets (v : Frx) : (s.setFrx v).upsets = s.upsets := rfl
@[simp] theorem State.setFrx_readData (v : Frx) : (s.setFrx v).readData = s.readData := rfl
@[simp] theorem State.setFrx_freeIndex (v : Frx) : (s.setFrx v).freeIndex = s.freeIndex := rfl
@[simp] theorem State.setFrx_glb (v : Frx) : (s.setFrx v).glb = s.glb := rfl
@[simp] theorem State.setFrx_line (v : Frx) : (s.setFrx v).line = s.line := rfl
@[simp] theorem State.setFrx_counters (v : Frx) : (s.setFrx v).counters = s.counters := rfl
@[simp] theorem State.setFrx_rx (v : Frx) : (s.setFrx v).rx = s.rx := rfl
@[simp] theorem State.setFrx_tx (v : Frx) : (s.setFrx v).tx = s.tx := rfl
@[simp] theorem State.setFrx_frx (v : Frx) : (s.setFrx v).frx = v := rfl
@[simp] theorem State.setFrx_wakeDet (v : Frx) : (s.setFrx v).wakeDet = s.wakeDet := rfl
@[simp] theorem State.setFrx_link (v : Frx) : (s.setFrx v).link = s.link := rfl
@[simp] theorem State.setFrx_poll (v : Frx) : (s.setFrx v).poll = s.poll := rfl
@[simp] theorem State.setFrx_stn (v : Frx) : (s.setFrx v).stn = s.stn := rfl
@[simp] theorem State.setFrx_listen (v : Frx) : (s.setFrx v).listen = s.listen := rfl
@[simp] theorem State.setFrx_map (v : Frx) : (s.setFrx v).map = s.map := rfl
@[simp] theorem State.setFrx_rings (v : Frx) : (s.setFrx v).rings = s.rings := rfl
@[simp] theorem State.setFrx_slots (v : Frx) : (s.setFrx v).slots = s.slots := rfl
@[simp] theorem State.setFrx_rxp (v : Frx) : (s.setFrx v).rxp = s.rxp := rfl
@[simp] theorem State.setFrx_cq (v : Frx) : (s.setFrx v).cq = s.cq := rfl
@[simp] theorem State.setFrx_cmd (v : Frx) : (s.setFrx v).cmd = s.cmd := rfl
@[simp] theorem State.setFrx_flt (v : Frx) : (s.setFrx v).flt = s.flt := rfl
@[simp] theorem State.setFrx_bus (v : Frx) : (s.setFrx v).bus = s.bus := rfl

@[simp] theorem State.setWakeDet_pending (v : BreakDet) : (s.setWakeDet v).pending = s.pending := rfl
@[simp] theorem State.setWakeDet_upsets (v : BreakDet) : (s.setWakeDet v).upsets = s.upsets := rfl
@[simp] theorem State.setWakeDet_readData (v : BreakDet) : (s.setWakeDet v).readData = s.readData := rfl
@[simp] theorem State.setWakeDet_freeIndex (v : BreakDet) : (s.setWakeDet v).freeIndex = s.freeIndex := rfl
@[simp] theorem State.setWakeDet_glb (v : BreakDet) : (s.setWakeDet v).glb = s.glb := rfl
@[simp] theorem State.setWakeDet_line (v : BreakDet) : (s.setWakeDet v).line = s.line := rfl
@[simp] theorem State.setWakeDet_counters (v : BreakDet) : (s.setWakeDet v).counters = s.counters := rfl
@[simp] theorem State.setWakeDet_rx (v : BreakDet) : (s.setWakeDet v).rx = s.rx := rfl
@[simp] theorem State.setWakeDet_tx (v : BreakDet) : (s.setWakeDet v).tx = s.tx := rfl
@[simp] theorem State.setWakeDet_frx (v : BreakDet) : (s.setWakeDet v).frx = s.frx := rfl
@[simp] theorem State.setWakeDet_wakeDet (v : BreakDet) : (s.setWakeDet v).wakeDet = v := rfl
@[simp] theorem State.setWakeDet_link (v : BreakDet) : (s.setWakeDet v).link = s.link := rfl
@[simp] theorem State.setWakeDet_poll (v : BreakDet) : (s.setWakeDet v).poll = s.poll := rfl
@[simp] theorem State.setWakeDet_stn (v : BreakDet) : (s.setWakeDet v).stn = s.stn := rfl
@[simp] theorem State.setWakeDet_listen (v : BreakDet) : (s.setWakeDet v).listen = s.listen := rfl
@[simp] theorem State.setWakeDet_map (v : BreakDet) : (s.setWakeDet v).map = s.map := rfl
@[simp] theorem State.setWakeDet_rings (v : BreakDet) : (s.setWakeDet v).rings = s.rings := rfl
@[simp] theorem State.setWakeDet_slots (v : BreakDet) : (s.setWakeDet v).slots = s.slots := rfl
@[simp] theorem State.setWakeDet_rxp (v : BreakDet) : (s.setWakeDet v).rxp = s.rxp := rfl
@[simp] theorem State.setWakeDet_cq (v : BreakDet) : (s.setWakeDet v).cq = s.cq := rfl
@[simp] theorem State.setWakeDet_cmd (v : BreakDet) : (s.setWakeDet v).cmd = s.cmd := rfl
@[simp] theorem State.setWakeDet_flt (v : BreakDet) : (s.setWakeDet v).flt = s.flt := rfl
@[simp] theorem State.setWakeDet_bus (v : BreakDet) : (s.setWakeDet v).bus = s.bus := rfl

@[simp] theorem State.setLink_pending (v : Link) : (s.setLink v).pending = s.pending := rfl
@[simp] theorem State.setLink_upsets (v : Link) : (s.setLink v).upsets = s.upsets := rfl
@[simp] theorem State.setLink_readData (v : Link) : (s.setLink v).readData = s.readData := rfl
@[simp] theorem State.setLink_freeIndex (v : Link) : (s.setLink v).freeIndex = s.freeIndex := rfl
@[simp] theorem State.setLink_glb (v : Link) : (s.setLink v).glb = s.glb := rfl
@[simp] theorem State.setLink_line (v : Link) : (s.setLink v).line = s.line := rfl
@[simp] theorem State.setLink_counters (v : Link) : (s.setLink v).counters = s.counters := rfl
@[simp] theorem State.setLink_rx (v : Link) : (s.setLink v).rx = s.rx := rfl
@[simp] theorem State.setLink_tx (v : Link) : (s.setLink v).tx = s.tx := rfl
@[simp] theorem State.setLink_frx (v : Link) : (s.setLink v).frx = s.frx := rfl
@[simp] theorem State.setLink_wakeDet (v : Link) : (s.setLink v).wakeDet = s.wakeDet := rfl
@[simp] theorem State.setLink_link (v : Link) : (s.setLink v).link = v := rfl
@[simp] theorem State.setLink_poll (v : Link) : (s.setLink v).poll = s.poll := rfl
@[simp] theorem State.setLink_stn (v : Link) : (s.setLink v).stn = s.stn := rfl
@[simp] theorem State.setLink_listen (v : Link) : (s.setLink v).listen = s.listen := rfl
@[simp] theorem State.setLink_map (v : Link) : (s.setLink v).map = s.map := rfl
@[simp] theorem State.setLink_rings (v : Link) : (s.setLink v).rings = s.rings := rfl
@[simp] theorem State.setLink_slots (v : Link) : (s.setLink v).slots = s.slots := rfl
@[simp] theorem State.setLink_rxp (v : Link) : (s.setLink v).rxp = s.rxp := rfl
@[simp] theorem State.setLink_cq (v : Link) : (s.setLink v).cq = s.cq := rfl
@[simp] theorem State.setLink_cmd (v : Link) : (s.setLink v).cmd = s.cmd := rfl
@[simp] theorem State.setLink_flt (v : Link) : (s.setLink v).flt = s.flt := rfl
@[simp] theorem State.setLink_bus (v : Link) : (s.setLink v).bus = s.bus := rfl

@[simp] theorem State.setPoll_pending (v : PollList) : (s.setPoll v).pending = s.pending := rfl
@[simp] theorem State.setPoll_upsets (v : PollList) : (s.setPoll v).upsets = s.upsets := rfl
@[simp] theorem State.setPoll_readData (v : PollList) : (s.setPoll v).readData = s.readData := rfl
@[simp] theorem State.setPoll_freeIndex (v : PollList) : (s.setPoll v).freeIndex = s.freeIndex := rfl
@[simp] theorem State.setPoll_glb (v : PollList) : (s.setPoll v).glb = s.glb := rfl
@[simp] theorem State.setPoll_line (v : PollList) : (s.setPoll v).line = s.line := rfl
@[simp] theorem State.setPoll_counters (v : PollList) : (s.setPoll v).counters = s.counters := rfl
@[simp] theorem State.setPoll_rx (v : PollList) : (s.setPoll v).rx = s.rx := rfl
@[simp] theorem State.setPoll_tx (v : PollList) : (s.setPoll v).tx = s.tx := rfl
@[simp] theorem State.setPoll_frx (v : PollList) : (s.setPoll v).frx = s.frx := rfl
@[simp] theorem State.setPoll_wakeDet (v : PollList) : (s.setPoll v).wakeDet = s.wakeDet := rfl
@[simp] theorem State.setPoll_link (v : PollList) : (s.setPoll v).link = s.link := rfl
@[simp] theorem State.setPoll_poll (v : PollList) : (s.setPoll v).poll = v := rfl
@[simp] theorem State.setPoll_stn (v : PollList) : (s.setPoll v).stn = s.stn := rfl
@[simp] theorem State.setPoll_listen (v : PollList) : (s.setPoll v).listen = s.listen := rfl
@[simp] theorem State.setPoll_map (v : PollList) : (s.setPoll v).map = s.map := rfl
@[simp] theorem State.setPoll_rings (v : PollList) : (s.setPoll v).rings = s.rings := rfl
@[simp] theorem State.setPoll_slots (v : PollList) : (s.setPoll v).slots = s.slots := rfl
@[simp] theorem State.setPoll_rxp (v : PollList) : (s.setPoll v).rxp = s.rxp := rfl
@[simp] theorem State.setPoll_cq (v : PollList) : (s.setPoll v).cq = s.cq := rfl
@[simp] theorem State.setPoll_cmd (v : PollList) : (s.setPoll v).cmd = s.cmd := rfl
@[simp] theorem State.setPoll_flt (v : PollList) : (s.setPoll v).flt = s.flt := rfl
@[simp] theorem State.setPoll_bus (v : PollList) : (s.setPoll v).bus = s.bus := rfl

@[simp] theorem State.setStn_pending (v : StationTable) : (s.setStn v).pending = s.pending := rfl
@[simp] theorem State.setStn_upsets (v : StationTable) : (s.setStn v).upsets = s.upsets := rfl
@[simp] theorem State.setStn_readData (v : StationTable) : (s.setStn v).readData = s.readData := rfl
@[simp] theorem State.setStn_freeIndex (v : StationTable) : (s.setStn v).freeIndex = s.freeIndex := rfl
@[simp] theorem State.setStn_glb (v : StationTable) : (s.setStn v).glb = s.glb := rfl
@[simp] theorem State.setStn_line (v : StationTable) : (s.setStn v).line = s.line := rfl
@[simp] theorem State.setStn_counters (v : StationTable) : (s.setStn v).counters = s.counters := rfl
@[simp] theorem State.setStn_rx (v : StationTable) : (s.setStn v).rx = s.rx := rfl
@[simp] theorem State.setStn_tx (v : StationTable) : (s.setStn v).tx = s.tx := rfl
@[simp] theorem State.setStn_frx (v : StationTable) : (s.setStn v).frx = s.frx := rfl
@[simp] theorem State.setStn_wakeDet (v : StationTable) : (s.setStn v).wakeDet = s.wakeDet := rfl
@[simp] theorem State.setStn_link (v : StationTable) : (s.setStn v).link = s.link := rfl
@[simp] theorem State.setStn_poll (v : StationTable) : (s.setStn v).poll = s.poll := rfl
@[simp] theorem State.setStn_stn (v : StationTable) : (s.setStn v).stn = v := rfl
@[simp] theorem State.setStn_listen (v : StationTable) : (s.setStn v).listen = s.listen := rfl
@[simp] theorem State.setStn_map (v : StationTable) : (s.setStn v).map = s.map := rfl
@[simp] theorem State.setStn_rings (v : StationTable) : (s.setStn v).rings = s.rings := rfl
@[simp] theorem State.setStn_slots (v : StationTable) : (s.setStn v).slots = s.slots := rfl
@[simp] theorem State.setStn_rxp (v : StationTable) : (s.setStn v).rxp = s.rxp := rfl
@[simp] theorem State.setStn_cq (v : StationTable) : (s.setStn v).cq = s.cq := rfl
@[simp] theorem State.setStn_cmd (v : StationTable) : (s.setStn v).cmd = s.cmd := rfl
@[simp] theorem State.setStn_flt (v : StationTable) : (s.setStn v).flt = s.flt := rfl
@[simp] theorem State.setStn_bus (v : StationTable) : (s.setStn v).bus = s.bus := rfl

@[simp] theorem State.setListen_pending (v : Vector ListenSlot 4) : (s.setListen v).pending = s.pending := rfl
@[simp] theorem State.setListen_upsets (v : Vector ListenSlot 4) : (s.setListen v).upsets = s.upsets := rfl
@[simp] theorem State.setListen_readData (v : Vector ListenSlot 4) : (s.setListen v).readData = s.readData := rfl
@[simp] theorem State.setListen_freeIndex (v : Vector ListenSlot 4) : (s.setListen v).freeIndex = s.freeIndex := rfl
@[simp] theorem State.setListen_glb (v : Vector ListenSlot 4) : (s.setListen v).glb = s.glb := rfl
@[simp] theorem State.setListen_line (v : Vector ListenSlot 4) : (s.setListen v).line = s.line := rfl
@[simp] theorem State.setListen_counters (v : Vector ListenSlot 4) : (s.setListen v).counters = s.counters := rfl
@[simp] theorem State.setListen_rx (v : Vector ListenSlot 4) : (s.setListen v).rx = s.rx := rfl
@[simp] theorem State.setListen_tx (v : Vector ListenSlot 4) : (s.setListen v).tx = s.tx := rfl
@[simp] theorem State.setListen_frx (v : Vector ListenSlot 4) : (s.setListen v).frx = s.frx := rfl
@[simp] theorem State.setListen_wakeDet (v : Vector ListenSlot 4) : (s.setListen v).wakeDet = s.wakeDet := rfl
@[simp] theorem State.setListen_link (v : Vector ListenSlot 4) : (s.setListen v).link = s.link := rfl
@[simp] theorem State.setListen_poll (v : Vector ListenSlot 4) : (s.setListen v).poll = s.poll := rfl
@[simp] theorem State.setListen_stn (v : Vector ListenSlot 4) : (s.setListen v).stn = s.stn := rfl
@[simp] theorem State.setListen_listen (v : Vector ListenSlot 4) : (s.setListen v).listen = v := rfl
@[simp] theorem State.setListen_map (v : Vector ListenSlot 4) : (s.setListen v).map = s.map := rfl
@[simp] theorem State.setListen_rings (v : Vector ListenSlot 4) : (s.setListen v).rings = s.rings := rfl
@[simp] theorem State.setListen_slots (v : Vector ListenSlot 4) : (s.setListen v).slots = s.slots := rfl
@[simp] theorem State.setListen_rxp (v : Vector ListenSlot 4) : (s.setListen v).rxp = s.rxp := rfl
@[simp] theorem State.setListen_cq (v : Vector ListenSlot 4) : (s.setListen v).cq = s.cq := rfl
@[simp] theorem State.setListen_cmd (v : Vector ListenSlot 4) : (s.setListen v).cmd = s.cmd := rfl
@[simp] theorem State.setListen_flt (v : Vector ListenSlot 4) : (s.setListen v).flt = s.flt := rfl
@[simp] theorem State.setListen_bus (v : Vector ListenSlot 4) : (s.setListen v).bus = s.bus := rfl

@[simp] theorem State.setMap_pending (v : ChannelMap) : (s.setMap v).pending = s.pending := rfl
@[simp] theorem State.setMap_upsets (v : ChannelMap) : (s.setMap v).upsets = s.upsets := rfl
@[simp] theorem State.setMap_readData (v : ChannelMap) : (s.setMap v).readData = s.readData := rfl
@[simp] theorem State.setMap_freeIndex (v : ChannelMap) : (s.setMap v).freeIndex = s.freeIndex := rfl
@[simp] theorem State.setMap_glb (v : ChannelMap) : (s.setMap v).glb = s.glb := rfl
@[simp] theorem State.setMap_line (v : ChannelMap) : (s.setMap v).line = s.line := rfl
@[simp] theorem State.setMap_counters (v : ChannelMap) : (s.setMap v).counters = s.counters := rfl
@[simp] theorem State.setMap_rx (v : ChannelMap) : (s.setMap v).rx = s.rx := rfl
@[simp] theorem State.setMap_tx (v : ChannelMap) : (s.setMap v).tx = s.tx := rfl
@[simp] theorem State.setMap_frx (v : ChannelMap) : (s.setMap v).frx = s.frx := rfl
@[simp] theorem State.setMap_wakeDet (v : ChannelMap) : (s.setMap v).wakeDet = s.wakeDet := rfl
@[simp] theorem State.setMap_link (v : ChannelMap) : (s.setMap v).link = s.link := rfl
@[simp] theorem State.setMap_poll (v : ChannelMap) : (s.setMap v).poll = s.poll := rfl
@[simp] theorem State.setMap_stn (v : ChannelMap) : (s.setMap v).stn = s.stn := rfl
@[simp] theorem State.setMap_listen (v : ChannelMap) : (s.setMap v).listen = s.listen := rfl
@[simp] theorem State.setMap_map (v : ChannelMap) : (s.setMap v).map = v := rfl
@[simp] theorem State.setMap_rings (v : ChannelMap) : (s.setMap v).rings = s.rings := rfl
@[simp] theorem State.setMap_slots (v : ChannelMap) : (s.setMap v).slots = s.slots := rfl
@[simp] theorem State.setMap_rxp (v : ChannelMap) : (s.setMap v).rxp = s.rxp := rfl
@[simp] theorem State.setMap_cq (v : ChannelMap) : (s.setMap v).cq = s.cq := rfl
@[simp] theorem State.setMap_cmd (v : ChannelMap) : (s.setMap v).cmd = s.cmd := rfl
@[simp] theorem State.setMap_flt (v : ChannelMap) : (s.setMap v).flt = s.flt := rfl
@[simp] theorem State.setMap_bus (v : ChannelMap) : (s.setMap v).bus = s.bus := rfl

@[simp] theorem State.setRings_pending (v : Vector Ring 4) : (s.setRings v).pending = s.pending := rfl
@[simp] theorem State.setRings_upsets (v : Vector Ring 4) : (s.setRings v).upsets = s.upsets := rfl
@[simp] theorem State.setRings_readData (v : Vector Ring 4) : (s.setRings v).readData = s.readData := rfl
@[simp] theorem State.setRings_freeIndex (v : Vector Ring 4) : (s.setRings v).freeIndex = s.freeIndex := rfl
@[simp] theorem State.setRings_glb (v : Vector Ring 4) : (s.setRings v).glb = s.glb := rfl
@[simp] theorem State.setRings_line (v : Vector Ring 4) : (s.setRings v).line = s.line := rfl
@[simp] theorem State.setRings_counters (v : Vector Ring 4) : (s.setRings v).counters = s.counters := rfl
@[simp] theorem State.setRings_rx (v : Vector Ring 4) : (s.setRings v).rx = s.rx := rfl
@[simp] theorem State.setRings_tx (v : Vector Ring 4) : (s.setRings v).tx = s.tx := rfl
@[simp] theorem State.setRings_frx (v : Vector Ring 4) : (s.setRings v).frx = s.frx := rfl
@[simp] theorem State.setRings_wakeDet (v : Vector Ring 4) : (s.setRings v).wakeDet = s.wakeDet := rfl
@[simp] theorem State.setRings_link (v : Vector Ring 4) : (s.setRings v).link = s.link := rfl
@[simp] theorem State.setRings_poll (v : Vector Ring 4) : (s.setRings v).poll = s.poll := rfl
@[simp] theorem State.setRings_stn (v : Vector Ring 4) : (s.setRings v).stn = s.stn := rfl
@[simp] theorem State.setRings_listen (v : Vector Ring 4) : (s.setRings v).listen = s.listen := rfl
@[simp] theorem State.setRings_map (v : Vector Ring 4) : (s.setRings v).map = s.map := rfl
@[simp] theorem State.setRings_rings (v : Vector Ring 4) : (s.setRings v).rings = v := rfl
@[simp] theorem State.setRings_slots (v : Vector Ring 4) : (s.setRings v).slots = s.slots := rfl
@[simp] theorem State.setRings_rxp (v : Vector Ring 4) : (s.setRings v).rxp = s.rxp := rfl
@[simp] theorem State.setRings_cq (v : Vector Ring 4) : (s.setRings v).cq = s.cq := rfl
@[simp] theorem State.setRings_cmd (v : Vector Ring 4) : (s.setRings v).cmd = s.cmd := rfl
@[simp] theorem State.setRings_flt (v : Vector Ring 4) : (s.setRings v).flt = s.flt := rfl
@[simp] theorem State.setRings_bus (v : Vector Ring 4) : (s.setRings v).bus = s.bus := rfl

@[simp] theorem State.setSlots_pending (v : Vector (Option Message) 2) : (s.setSlots v).pending = s.pending := rfl
@[simp] theorem State.setSlots_upsets (v : Vector (Option Message) 2) : (s.setSlots v).upsets = s.upsets := rfl
@[simp] theorem State.setSlots_readData (v : Vector (Option Message) 2) : (s.setSlots v).readData = s.readData := rfl
@[simp] theorem State.setSlots_freeIndex (v : Vector (Option Message) 2) : (s.setSlots v).freeIndex = s.freeIndex := rfl
@[simp] theorem State.setSlots_glb (v : Vector (Option Message) 2) : (s.setSlots v).glb = s.glb := rfl
@[simp] theorem State.setSlots_line (v : Vector (Option Message) 2) : (s.setSlots v).line = s.line := rfl
@[simp] theorem State.setSlots_counters (v : Vector (Option Message) 2) : (s.setSlots v).counters = s.counters := rfl
@[simp] theorem State.setSlots_rx (v : Vector (Option Message) 2) : (s.setSlots v).rx = s.rx := rfl
@[simp] theorem State.setSlots_tx (v : Vector (Option Message) 2) : (s.setSlots v).tx = s.tx := rfl
@[simp] theorem State.setSlots_frx (v : Vector (Option Message) 2) : (s.setSlots v).frx = s.frx := rfl
@[simp] theorem State.setSlots_wakeDet (v : Vector (Option Message) 2) : (s.setSlots v).wakeDet = s.wakeDet := rfl
@[simp] theorem State.setSlots_link (v : Vector (Option Message) 2) : (s.setSlots v).link = s.link := rfl
@[simp] theorem State.setSlots_poll (v : Vector (Option Message) 2) : (s.setSlots v).poll = s.poll := rfl
@[simp] theorem State.setSlots_stn (v : Vector (Option Message) 2) : (s.setSlots v).stn = s.stn := rfl
@[simp] theorem State.setSlots_listen (v : Vector (Option Message) 2) : (s.setSlots v).listen = s.listen := rfl
@[simp] theorem State.setSlots_map (v : Vector (Option Message) 2) : (s.setSlots v).map = s.map := rfl
@[simp] theorem State.setSlots_rings (v : Vector (Option Message) 2) : (s.setSlots v).rings = s.rings := rfl
@[simp] theorem State.setSlots_slots (v : Vector (Option Message) 2) : (s.setSlots v).slots = v := rfl
@[simp] theorem State.setSlots_rxp (v : Vector (Option Message) 2) : (s.setSlots v).rxp = s.rxp := rfl
@[simp] theorem State.setSlots_cq (v : Vector (Option Message) 2) : (s.setSlots v).cq = s.cq := rfl
@[simp] theorem State.setSlots_cmd (v : Vector (Option Message) 2) : (s.setSlots v).cmd = s.cmd := rfl
@[simp] theorem State.setSlots_flt (v : Vector (Option Message) 2) : (s.setSlots v).flt = s.flt := rfl
@[simp] theorem State.setSlots_bus (v : Vector (Option Message) 2) : (s.setSlots v).bus = s.bus := rfl

@[simp] theorem State.setRxp_pending (v : RxPath) : (s.setRxp v).pending = s.pending := rfl
@[simp] theorem State.setRxp_upsets (v : RxPath) : (s.setRxp v).upsets = s.upsets := rfl
@[simp] theorem State.setRxp_readData (v : RxPath) : (s.setRxp v).readData = s.readData := rfl
@[simp] theorem State.setRxp_freeIndex (v : RxPath) : (s.setRxp v).freeIndex = s.freeIndex := rfl
@[simp] theorem State.setRxp_glb (v : RxPath) : (s.setRxp v).glb = s.glb := rfl
@[simp] theorem State.setRxp_line (v : RxPath) : (s.setRxp v).line = s.line := rfl
@[simp] theorem State.setRxp_counters (v : RxPath) : (s.setRxp v).counters = s.counters := rfl
@[simp] theorem State.setRxp_rx (v : RxPath) : (s.setRxp v).rx = s.rx := rfl
@[simp] theorem State.setRxp_tx (v : RxPath) : (s.setRxp v).tx = s.tx := rfl
@[simp] theorem State.setRxp_frx (v : RxPath) : (s.setRxp v).frx = s.frx := rfl
@[simp] theorem State.setRxp_wakeDet (v : RxPath) : (s.setRxp v).wakeDet = s.wakeDet := rfl
@[simp] theorem State.setRxp_link (v : RxPath) : (s.setRxp v).link = s.link := rfl
@[simp] theorem State.setRxp_poll (v : RxPath) : (s.setRxp v).poll = s.poll := rfl
@[simp] theorem State.setRxp_stn (v : RxPath) : (s.setRxp v).stn = s.stn := rfl
@[simp] theorem State.setRxp_listen (v : RxPath) : (s.setRxp v).listen = s.listen := rfl
@[simp] theorem State.setRxp_map (v : RxPath) : (s.setRxp v).map = s.map := rfl
@[simp] theorem State.setRxp_rings (v : RxPath) : (s.setRxp v).rings = s.rings := rfl
@[simp] theorem State.setRxp_slots (v : RxPath) : (s.setRxp v).slots = s.slots := rfl
@[simp] theorem State.setRxp_rxp (v : RxPath) : (s.setRxp v).rxp = v := rfl
@[simp] theorem State.setRxp_cq (v : RxPath) : (s.setRxp v).cq = s.cq := rfl
@[simp] theorem State.setRxp_cmd (v : RxPath) : (s.setRxp v).cmd = s.cmd := rfl
@[simp] theorem State.setRxp_flt (v : RxPath) : (s.setRxp v).flt = s.flt := rfl
@[simp] theorem State.setRxp_bus (v : RxPath) : (s.setRxp v).bus = s.bus := rfl

@[simp] theorem State.setCq_pending (v : Completion) : (s.setCq v).pending = s.pending := rfl
@[simp] theorem State.setCq_upsets (v : Completion) : (s.setCq v).upsets = s.upsets := rfl
@[simp] theorem State.setCq_readData (v : Completion) : (s.setCq v).readData = s.readData := rfl
@[simp] theorem State.setCq_freeIndex (v : Completion) : (s.setCq v).freeIndex = s.freeIndex := rfl
@[simp] theorem State.setCq_glb (v : Completion) : (s.setCq v).glb = s.glb := rfl
@[simp] theorem State.setCq_line (v : Completion) : (s.setCq v).line = s.line := rfl
@[simp] theorem State.setCq_counters (v : Completion) : (s.setCq v).counters = s.counters := rfl
@[simp] theorem State.setCq_rx (v : Completion) : (s.setCq v).rx = s.rx := rfl
@[simp] theorem State.setCq_tx (v : Completion) : (s.setCq v).tx = s.tx := rfl
@[simp] theorem State.setCq_frx (v : Completion) : (s.setCq v).frx = s.frx := rfl
@[simp] theorem State.setCq_wakeDet (v : Completion) : (s.setCq v).wakeDet = s.wakeDet := rfl
@[simp] theorem State.setCq_link (v : Completion) : (s.setCq v).link = s.link := rfl
@[simp] theorem State.setCq_poll (v : Completion) : (s.setCq v).poll = s.poll := rfl
@[simp] theorem State.setCq_stn (v : Completion) : (s.setCq v).stn = s.stn := rfl
@[simp] theorem State.setCq_listen (v : Completion) : (s.setCq v).listen = s.listen := rfl
@[simp] theorem State.setCq_map (v : Completion) : (s.setCq v).map = s.map := rfl
@[simp] theorem State.setCq_rings (v : Completion) : (s.setCq v).rings = s.rings := rfl
@[simp] theorem State.setCq_slots (v : Completion) : (s.setCq v).slots = s.slots := rfl
@[simp] theorem State.setCq_rxp (v : Completion) : (s.setCq v).rxp = s.rxp := rfl
@[simp] theorem State.setCq_cq (v : Completion) : (s.setCq v).cq = v := rfl
@[simp] theorem State.setCq_cmd (v : Completion) : (s.setCq v).cmd = s.cmd := rfl
@[simp] theorem State.setCq_flt (v : Completion) : (s.setCq v).flt = s.flt := rfl
@[simp] theorem State.setCq_bus (v : Completion) : (s.setCq v).bus = s.bus := rfl

@[simp] theorem State.setCmd_pending (v : CommandQueue) : (s.setCmd v).pending = s.pending := rfl
@[simp] theorem State.setCmd_upsets (v : CommandQueue) : (s.setCmd v).upsets = s.upsets := rfl
@[simp] theorem State.setCmd_readData (v : CommandQueue) : (s.setCmd v).readData = s.readData := rfl
@[simp] theorem State.setCmd_freeIndex (v : CommandQueue) : (s.setCmd v).freeIndex = s.freeIndex := rfl
@[simp] theorem State.setCmd_glb (v : CommandQueue) : (s.setCmd v).glb = s.glb := rfl
@[simp] theorem State.setCmd_line (v : CommandQueue) : (s.setCmd v).line = s.line := rfl
@[simp] theorem State.setCmd_counters (v : CommandQueue) : (s.setCmd v).counters = s.counters := rfl
@[simp] theorem State.setCmd_rx (v : CommandQueue) : (s.setCmd v).rx = s.rx := rfl
@[simp] theorem State.setCmd_tx (v : CommandQueue) : (s.setCmd v).tx = s.tx := rfl
@[simp] theorem State.setCmd_frx (v : CommandQueue) : (s.setCmd v).frx = s.frx := rfl
@[simp] theorem State.setCmd_wakeDet (v : CommandQueue) : (s.setCmd v).wakeDet = s.wakeDet := rfl
@[simp] theorem State.setCmd_link (v : CommandQueue) : (s.setCmd v).link = s.link := rfl
@[simp] theorem State.setCmd_poll (v : CommandQueue) : (s.setCmd v).poll = s.poll := rfl
@[simp] theorem State.setCmd_stn (v : CommandQueue) : (s.setCmd v).stn = s.stn := rfl
@[simp] theorem State.setCmd_listen (v : CommandQueue) : (s.setCmd v).listen = s.listen := rfl
@[simp] theorem State.setCmd_map (v : CommandQueue) : (s.setCmd v).map = s.map := rfl
@[simp] theorem State.setCmd_rings (v : CommandQueue) : (s.setCmd v).rings = s.rings := rfl
@[simp] theorem State.setCmd_slots (v : CommandQueue) : (s.setCmd v).slots = s.slots := rfl
@[simp] theorem State.setCmd_rxp (v : CommandQueue) : (s.setCmd v).rxp = s.rxp := rfl
@[simp] theorem State.setCmd_cq (v : CommandQueue) : (s.setCmd v).cq = s.cq := rfl
@[simp] theorem State.setCmd_cmd (v : CommandQueue) : (s.setCmd v).cmd = v := rfl
@[simp] theorem State.setCmd_flt (v : CommandQueue) : (s.setCmd v).flt = s.flt := rfl
@[simp] theorem State.setCmd_bus (v : CommandQueue) : (s.setCmd v).bus = s.bus := rfl

@[simp] theorem State.setFlt_pending (v : FaultUnit) : (s.setFlt v).pending = s.pending := rfl
@[simp] theorem State.setFlt_upsets (v : FaultUnit) : (s.setFlt v).upsets = s.upsets := rfl
@[simp] theorem State.setFlt_readData (v : FaultUnit) : (s.setFlt v).readData = s.readData := rfl
@[simp] theorem State.setFlt_freeIndex (v : FaultUnit) : (s.setFlt v).freeIndex = s.freeIndex := rfl
@[simp] theorem State.setFlt_glb (v : FaultUnit) : (s.setFlt v).glb = s.glb := rfl
@[simp] theorem State.setFlt_line (v : FaultUnit) : (s.setFlt v).line = s.line := rfl
@[simp] theorem State.setFlt_counters (v : FaultUnit) : (s.setFlt v).counters = s.counters := rfl
@[simp] theorem State.setFlt_rx (v : FaultUnit) : (s.setFlt v).rx = s.rx := rfl
@[simp] theorem State.setFlt_tx (v : FaultUnit) : (s.setFlt v).tx = s.tx := rfl
@[simp] theorem State.setFlt_frx (v : FaultUnit) : (s.setFlt v).frx = s.frx := rfl
@[simp] theorem State.setFlt_wakeDet (v : FaultUnit) : (s.setFlt v).wakeDet = s.wakeDet := rfl
@[simp] theorem State.setFlt_link (v : FaultUnit) : (s.setFlt v).link = s.link := rfl
@[simp] theorem State.setFlt_poll (v : FaultUnit) : (s.setFlt v).poll = s.poll := rfl
@[simp] theorem State.setFlt_stn (v : FaultUnit) : (s.setFlt v).stn = s.stn := rfl
@[simp] theorem State.setFlt_listen (v : FaultUnit) : (s.setFlt v).listen = s.listen := rfl
@[simp] theorem State.setFlt_map (v : FaultUnit) : (s.setFlt v).map = s.map := rfl
@[simp] theorem State.setFlt_rings (v : FaultUnit) : (s.setFlt v).rings = s.rings := rfl
@[simp] theorem State.setFlt_slots (v : FaultUnit) : (s.setFlt v).slots = s.slots := rfl
@[simp] theorem State.setFlt_rxp (v : FaultUnit) : (s.setFlt v).rxp = s.rxp := rfl
@[simp] theorem State.setFlt_cq (v : FaultUnit) : (s.setFlt v).cq = s.cq := rfl
@[simp] theorem State.setFlt_cmd (v : FaultUnit) : (s.setFlt v).cmd = s.cmd := rfl
@[simp] theorem State.setFlt_flt (v : FaultUnit) : (s.setFlt v).flt = v := rfl
@[simp] theorem State.setFlt_bus (v : FaultUnit) : (s.setFlt v).bus = s.bus := rfl

@[simp] theorem State.setBus_pending (v : Bus) : (s.setBus v).pending = s.pending := rfl
@[simp] theorem State.setBus_upsets (v : Bus) : (s.setBus v).upsets = s.upsets := rfl
@[simp] theorem State.setBus_readData (v : Bus) : (s.setBus v).readData = s.readData := rfl
@[simp] theorem State.setBus_freeIndex (v : Bus) : (s.setBus v).freeIndex = s.freeIndex := rfl
@[simp] theorem State.setBus_glb (v : Bus) : (s.setBus v).glb = s.glb := rfl
@[simp] theorem State.setBus_line (v : Bus) : (s.setBus v).line = s.line := rfl
@[simp] theorem State.setBus_counters (v : Bus) : (s.setBus v).counters = s.counters := rfl
@[simp] theorem State.setBus_rx (v : Bus) : (s.setBus v).rx = s.rx := rfl
@[simp] theorem State.setBus_tx (v : Bus) : (s.setBus v).tx = s.tx := rfl
@[simp] theorem State.setBus_frx (v : Bus) : (s.setBus v).frx = s.frx := rfl
@[simp] theorem State.setBus_wakeDet (v : Bus) : (s.setBus v).wakeDet = s.wakeDet := rfl
@[simp] theorem State.setBus_link (v : Bus) : (s.setBus v).link = s.link := rfl
@[simp] theorem State.setBus_poll (v : Bus) : (s.setBus v).poll = s.poll := rfl
@[simp] theorem State.setBus_stn (v : Bus) : (s.setBus v).stn = s.stn := rfl
@[simp] theorem State.setBus_listen (v : Bus) : (s.setBus v).listen = s.listen := rfl
@[simp] theorem State.setBus_map (v : Bus) : (s.setBus v).map = s.map := rfl
@[simp] theorem State.setBus_rings (v : Bus) : (s.setBus v).rings = s.rings := rfl
@[simp] theorem State.setBus_slots (v : Bus) : (s.setBus v).slots = s.slots := rfl
@[simp] theorem State.setBus_rxp (v : Bus) : (s.setBus v).rxp = s.rxp := rfl
@[simp] theorem State.setBus_cq (v : Bus) : (s.setBus v).cq = s.cq := rfl
@[simp] theorem State.setBus_cmd (v : Bus) : (s.setBus v).cmd = s.cmd := rfl
@[simp] theorem State.setBus_flt (v : Bus) : (s.setBus v).flt = s.flt := rfl
@[simp] theorem State.setBus_bus (v : Bus) : (s.setBus v).bus = v := rfl

@[simp] theorem State.setRead_pending (v : Word) : (s.setRead v).pending = s.pending := rfl
@[simp] theorem State.setRead_upsets (v : Word) : (s.setRead v).upsets = s.upsets := rfl
@[simp] theorem State.setRead_readData (v : Word) : (s.setRead v).readData = v := rfl
@[simp] theorem State.setRead_freeIndex (v : Word) : (s.setRead v).freeIndex = s.freeIndex := rfl
@[simp] theorem State.setRead_glb (v : Word) : (s.setRead v).glb = s.glb := rfl
@[simp] theorem State.setRead_line (v : Word) : (s.setRead v).line = s.line := rfl
@[simp] theorem State.setRead_counters (v : Word) : (s.setRead v).counters = s.counters := rfl
@[simp] theorem State.setRead_rx (v : Word) : (s.setRead v).rx = s.rx := rfl
@[simp] theorem State.setRead_tx (v : Word) : (s.setRead v).tx = s.tx := rfl
@[simp] theorem State.setRead_frx (v : Word) : (s.setRead v).frx = s.frx := rfl
@[simp] theorem State.setRead_wakeDet (v : Word) : (s.setRead v).wakeDet = s.wakeDet := rfl
@[simp] theorem State.setRead_link (v : Word) : (s.setRead v).link = s.link := rfl
@[simp] theorem State.setRead_poll (v : Word) : (s.setRead v).poll = s.poll := rfl
@[simp] theorem State.setRead_stn (v : Word) : (s.setRead v).stn = s.stn := rfl
@[simp] theorem State.setRead_listen (v : Word) : (s.setRead v).listen = s.listen := rfl
@[simp] theorem State.setRead_map (v : Word) : (s.setRead v).map = s.map := rfl
@[simp] theorem State.setRead_rings (v : Word) : (s.setRead v).rings = s.rings := rfl
@[simp] theorem State.setRead_slots (v : Word) : (s.setRead v).slots = s.slots := rfl
@[simp] theorem State.setRead_rxp (v : Word) : (s.setRead v).rxp = s.rxp := rfl
@[simp] theorem State.setRead_cq (v : Word) : (s.setRead v).cq = s.cq := rfl
@[simp] theorem State.setRead_cmd (v : Word) : (s.setRead v).cmd = s.cmd := rfl
@[simp] theorem State.setRead_flt (v : Word) : (s.setRead v).flt = s.flt := rfl
@[simp] theorem State.setRead_bus (v : Word) : (s.setRead v).bus = s.bus := rfl

@[simp] theorem State.setPending_pending (v : List Instr) : (s.setPending v).pending = v := rfl
@[simp] theorem State.setPending_upsets (v : List Instr) : (s.setPending v).upsets = s.upsets := rfl
@[simp] theorem State.setPending_readData (v : List Instr) : (s.setPending v).readData = s.readData := rfl
@[simp] theorem State.setPending_freeIndex (v : List Instr) : (s.setPending v).freeIndex = s.freeIndex := rfl
@[simp] theorem State.setPending_glb (v : List Instr) : (s.setPending v).glb = s.glb := rfl
@[simp] theorem State.setPending_line (v : List Instr) : (s.setPending v).line = s.line := rfl
@[simp] theorem State.setPending_counters (v : List Instr) : (s.setPending v).counters = s.counters := rfl
@[simp] theorem State.setPending_rx (v : List Instr) : (s.setPending v).rx = s.rx := rfl
@[simp] theorem State.setPending_tx (v : List Instr) : (s.setPending v).tx = s.tx := rfl
@[simp] theorem State.setPending_frx (v : List Instr) : (s.setPending v).frx = s.frx := rfl
@[simp] theorem State.setPending_wakeDet (v : List Instr) : (s.setPending v).wakeDet = s.wakeDet := rfl
@[simp] theorem State.setPending_link (v : List Instr) : (s.setPending v).link = s.link := rfl
@[simp] theorem State.setPending_poll (v : List Instr) : (s.setPending v).poll = s.poll := rfl
@[simp] theorem State.setPending_stn (v : List Instr) : (s.setPending v).stn = s.stn := rfl
@[simp] theorem State.setPending_listen (v : List Instr) : (s.setPending v).listen = s.listen := rfl
@[simp] theorem State.setPending_map (v : List Instr) : (s.setPending v).map = s.map := rfl
@[simp] theorem State.setPending_rings (v : List Instr) : (s.setPending v).rings = s.rings := rfl
@[simp] theorem State.setPending_slots (v : List Instr) : (s.setPending v).slots = s.slots := rfl
@[simp] theorem State.setPending_rxp (v : List Instr) : (s.setPending v).rxp = s.rxp := rfl
@[simp] theorem State.setPending_cq (v : List Instr) : (s.setPending v).cq = s.cq := rfl
@[simp] theorem State.setPending_cmd (v : List Instr) : (s.setPending v).cmd = s.cmd := rfl
@[simp] theorem State.setPending_flt (v : List Instr) : (s.setPending v).flt = s.flt := rfl
@[simp] theorem State.setPending_bus (v : List Instr) : (s.setPending v).bus = s.bus := rfl

end Sys2Proof.Machine
end

