-- ==== Sys2Proof/Laws/Ops.lean ====
section
/-! SUPPORT. One lemma for each shared operation: everything it can do, for proofs to cite in place of its definition. -/

namespace Sys2Proof.Machine

/-! ## Power and holds -/

theorem State.awake_iff (s : State) :
    s.awake = true ↔ s.held = false ∧ (s.glb.power = .run ∨ s.glb.power = .dozePending) := by
  simp [State.awake]

theorem State.live_iff (s : State) : s.live = true ↔ s.held = false ∧ s.halted = false := by
  simp [State.live]

theorem State.halted_iff (s : State) : s.halted = true ↔ s.glb.power = .halt := by simp [State.halted]

theorem State.live_of_awake {s : State} (h : s.awake = true) : s.live = true := by
  rw [State.awake_iff] at h
  rw [State.live_iff]
  refine ⟨h.1, ?_⟩
  rcases h.2 with h2 | h2 <;> simp [State.halted, h2]

theorem State.awake_of_halted {s : State} (h : s.halted = true) : s.awake = false := by
  rw [State.halted_iff] at h
  simp [State.awake, h]

/-! ## The shape of a command -/

theorem State.due_of_not_awake {s : State} (h : s.awake = false) : s.due = s := by simp [State.due, h]

theorem State.settle_of_nothing {s : State} (h : s.NothingWaits) : s.settle = s := by
  obtain ⟨h1, h2⟩ := h
  unfold State.settle
  split
  · rfl
  · simp only [h1, List.length_nil, State.settleQuiet]
    have hp : State.pump s.pumpFuel s = s := by
      have : ∀ n, State.pump n s = s := by
        intro n
        cases n with
        | zero => rfl
        | succ n => simp [State.pump, State.headStep, h2]
      exact this _
    simp [hp, State.noteBlocking, State.headNeedsRecord, h1]

theorem State.event_of_awake {s : State} (f : State → State) (h : s.due.awake = true) :
    s.event f = (f s.due).settle := by simp [State.event, h]

theorem State.event_of_not_awake {s : State} (f : State → State) (h : s.awake = false) : s.event f = s := by
  simp [State.event, State.due_of_not_awake h, h]

theorem State.access_of_live {s : State} (f : State → State) (h : s.due.live = true) :
    s.access f = (f s.due).settle := by simp [State.access, h]

theorem State.access_of_not_live {s : State} (f : State → State) (h : s.live = false) : s.access f = s := by
  have ha : s.awake = false := by
    cases hb : s.awake
    · rfl
    · rw [State.live_of_awake hb] at h
      cases h
  simp [State.access, State.due_of_not_awake ha, h]

theorem State.lineEvent_of_watching {s : State} (f g : State → State) (h : s.due.watching = true) :
    s.lineEvent f g = (g s.due).settle := by simp [State.lineEvent, State.atWakeDetector, h]

theorem State.lineEvent_of_not_watching {s : State} (f g : State → State) (h : s.due.watching = false) :
    s.lineEvent f g = s.event f := by simp [State.lineEvent, h]

theorem State.accessInHalt_of_not_held {s : State} (f : State → State) (h : s.due.held = false) :
    s.accessInHalt f = f s.due := by simp [State.accessInHalt, h]

theorem State.checked_none (s : State) (f : State → State) : s.checked none f = f s := rfl

theorem State.checked_some (s : State) (c : HaltCause) (f : State → State) :
    s.checked (some c) f = s.enterHalt c := rfl

theorem unsound_false (c : HaltCause) : unsound false c = none := rfl

theorem unsound_true (c : HaltCause) : unsound true c = some c := rfl

theorem State.unlessHalted_of_not {s : State} (f : State → State) (h : s.halted = false) :
    s.unlessHalted f = f s := by simp [State.unlessHalted, h]

theorem State.unlessHalted_of_halted {s : State} (f : State → State) (h : s.halted = true) :
    s.unlessHalted f = s := by simp [State.unlessHalted, h]

/-! ## Entries of the tables -/

theorem State.station_setStation_self {s : State} {a : LineAddr} (r : Station) (h0 : a ≠ 0) (h1 : a ≠ 127) :
    (s.setStation a r).station a = r := by
  unfold State.setStation
  rw [if_neg (by rintro (e | e); exacts [h0 e, h1 e])]
  simp [State.station]

theorem State.station_setStation_other {s : State} {a b : LineAddr} (r : Station) (h : a ≠ b) :
    (s.setStation a r).station b = s.station b := by
  unfold State.setStation State.station
  split
  · rfl
  · have : a.toNat ≠ b.toNat := fun e => h (BitVec.eq_of_toNat_eq e)
    simp [this]

theorem State.setStation_reserved {s : State} {a : LineAddr} (r : Station) (h : a = 0 ∨ a = 127) :
    s.setStation a r = s := if_pos h

theorem State.ring_setRing_self (s : State) (n : Fin 4) (r : Ring) : (s.setRing n r).ring n = r := by
  simp [State.setRing, State.ring]

theorem State.ring_setRing_other {s : State} {n m : Fin 4} (r : Ring) (h : n ≠ m) :
    (s.setRing n r).ring m = s.ring m := by
  have : n.val ≠ m.val := fun e => h (Fin.ext e)
  simp [State.setRing, State.ring, this]

theorem State.slot_setSlot_self (s : State) (k : Fin 2) (m : Option Message) : (s.setSlot k m).slot k = m := by
  simp [State.setSlot, State.slot]

theorem State.slot_setSlot_other {s : State} {k j : Fin 2} (m : Option Message) (h : k ≠ j) :
    (s.setSlot k m).slot j = s.slot j := by
  have : k.val ≠ j.val := fun e => h (Fin.ext e)
  simp [State.setSlot, State.slot, this]

theorem State.lsn_setLsn_self (s : State) (k : Fin 4) (v : ListenSlot) : (s.setLsn k v).lsn k = v := by
  simp [State.setLsn, State.lsn]

theorem State.lsn_setLsn_other {s : State} {k j : Fin 4} (v : ListenSlot) (h : k ≠ j) :
    (s.setLsn k v).lsn j = s.lsn j := by
  have : k.val ≠ j.val := fun e => h (Fin.ext e)
  simp [State.setLsn, State.lsn, this]

/-! ## Station records in member role (R62) -/

/-- A member changes no record (R62). -/
theorem State.failStation_of_member {s : State} (a : LineAddr) (c : AttemptCause) (final : Bool)
    (h : s.line.role = .member) : s.failStation a c final = s := by simp [State.failStation, h]

/-- In anchor role the failure mark, with TIMEOUT the miss mark, and at the last failure ResyncNeeded (R44, R46). -/
theorem State.failStation_of_anchor {s : State} (a : LineAddr) (c : AttemptCause) (final : Bool)
    (h : s.line.role = .anchor) :
    s.failStation a c final =
      let t := if c = .timeout then (s.failureMark a).missMark a else s.failureMark a
      if final then t.setResync a true else t := by simp [State.failStation, h]

/-- The changes of R51 are made in anchor role alone (R62). -/
theorem State.syncRecords_cases (s : State) :
    (s.line.role = .anchor ∧ s.syncRecords = s.syncAllStations) ∨ (s.line.role = .member ∧ s.syncRecords = s) := by
  unfold State.syncRecords
  cases h : s.line.role
  · exact .inl ⟨rfl, by simp⟩
  · exact .inr ⟨rfl, by simp⟩

/-! ## Parity of the staged messages -/

/-- Where a choice finds no parity error, every Ready message is sound (R159). -/
theorem State.sound_of_ready {s : State} {k : Fin 2} {m : Message} (h : s.readyUnsound = false)
    (hm : s.slot k = some m) (hp : m.phase = .ready) : m.sound = true := by
  simp only [State.readyUnsound, State.readForChoice, State.slotUnsound, Bool.or_eq_false_iff] at h
  match k with
  | 0 => simpa [hm, hp] using h.1
  | 1 => simpa [hm, hp] using h.2

/-- A drain step reads a sound frame without more ado (R159). -/
theorem State.readFrame_of_sound {s : State} {r : RxFrame} (f : State → State) (h : r.sound = true) :
    s.readFrame r f = f s := by simp [State.readFrame, h, unsound, State.checked]

/-- A drain step that meets an unsound frame halts the controller (R159, R160). -/
theorem State.readFrame_of_unsound {s : State} {r : RxFrame} (f : State → State) (h : r.sound = false) :
    s.readFrame r f = s.enterHalt .rxbufParity := by simp [State.readFrame, h, unsound, State.checked]

/-! ## Counters and causes -/

theorem Counters.get_put_self (k : Counters) (c : Counter) (v : BitVec 16) : (k.put c v).get c = v := by
  cases c <;> rfl

theorem Counters.get_put_other (k : Counters) {c e : Counter} (v : BitVec 16) (h : c ≠ e) :
    (k.put c v).get e = k.get e := by
  cases c <;> cases e <;> first | rfl | exact absurd rfl h

/-- A counter event changes one counter and nothing else (R16). -/
theorem State.bump_eq (s : State) (c : Counter) :
    s.bump c = s.setCounters (s.counters.put c (satInc (s.counters.get c))) := rfl

/-- Setting a cause changes INTSTAT and nothing else (R141). -/
theorem State.raise_eq (s : State) (c : IrqCause) :
    s.raise c = s.setGlb { s.glb with intstat := s.glb.intstat ||| c.mask } := rfl

theorem State.halted_raise (s : State) (c : IrqCause) : (s.raise c).halted = s.halted := rfl

theorem State.halted_bump (s : State) (c : Counter) : (s.bump c).halted = s.halted := rfl

/-! ## Halt -/

/-- Halt entry halts (R161). -/
theorem State.halted_enterHalt (s : State) (c : HaltCause) : (s.enterHalt c).halted = true := by
  unfold State.enterHalt
  split
  · assumption
  · rfl

/-- In Halt nothing is in flight for a unit any more (R161). -/
theorem State.inFlight_of_halted {s : State} (h : s.halted = true) : s.inFlight = [] := by
  simp [State.inFlight, h]

/-! ## DMA -/

theorem State.dmaDone_orphan (s : State) (k : DmaKind) (f : State → State) : s.dmaDone .orphan k f = s.orphanDone k := by
  simp [State.dmaDone]

theorem State.dmaDone_not_in_flight {s : State} (t : Txn) {k : DmaKind} (f : State → State) (h : k ∉ s.inFlight) :
    s.dmaDone t k f = s.orphanDone k := by
  simp [State.dmaDone, h]

theorem State.dmaDone_live {s : State} {k : DmaKind} (f : State → State) (h : k ∈ s.inFlight) (ha : s.awake = true) :
    s.dmaDone .live k f = f s := by
  simp [State.dmaDone, h, ha]

/-- A transaction without an owner changes nothing but the list of those transactions (R98, R107, R161, R164). -/
theorem State.orphanDone_cases (s : State) (k : DmaKind) : ∃ b : Bus, s.orphanDone k = s.setBus b := by
  unfold State.orphanDone
  split
  · exact ⟨_, rfl⟩
  · exact ⟨_, rfl⟩

/-- A completion that led to no Halt leaves the bus as it is (R161). -/
theorem State.finished_of_not_halted {s : State} (k : DmaKind) (h : s.halted = false) : s.finished k = s := by
  simp [State.finished, h]

/-- A completion that led to Halt takes one transaction of its kind off the bus and changes nothing else (R161, R164). -/
theorem State.finished_of_halted {s : State} (k : DmaKind) (h : s.halted = true) :
    s.finished k = s.setBus { s.bus with abandoned := s.bus.abandoned.erase k } := by
  simp [State.finished, h]

/-- The completion a unit waits for, while the controller works: the unit acts, and the event ends (log 7). -/
theorem State.dmaEvent_live {s : State} {k : DmaKind} (f : State → State) (h : k ∈ s.due.inFlight)
    (ha : s.due.awake = true) : s.dmaEvent .live k f = ((f s.due).finished k).settle := by
  simp [State.dmaEvent, State.dmaDone_live _ h ha]

/-! ## The break detector and the transmitter -/

/-- The event of R10 comes in Counting, with at least 13 whole low bit times behind it (log 18). -/
theorem BreakDet.reached_iff (d : BreakDet) : d.reached = true ↔ ∃ n, d = .counting n ∧ 13 ≤ n := by
  cases d with
  | armed => simp [BreakDet.reached, BreakDet.low]
  | rearming => simp [BreakDet.reached, BreakDet.low]
  | counting n =>
    simp only [BreakDet.reached, BreakDet.low, Config.breakRun, beq_iff_eq, BreakDet.counting.injEq]
    constructor
    · intro h
      exact ⟨n, rfl, by omega⟩
    · rintro ⟨m, rfl, h⟩
      omega

/-- A run never passes 14 (R10). -/
theorem BreakDet.low_run {d : BreakDet} {n : Nat} (h : d.low = .counting n) : n ≤ 14 := by
  cases d <;> simp only [BreakDet.low, Config.breakRun, BreakDet.counting.injEq, reduceCtorEq] at h
  omega

/-- Outside Counting and below its thirteenth bit time the row BREAK_DETECTED changes nothing (R10). -/
theorem State.breakDetected_of_not_reached {s : State} (h : s.rx.brk.reached = false) : s.breakDetected = s := by
  simp [State.breakDetected, h]

/-- Below its thirteenth low bit time the wake detector's run wakes nothing (R170). -/
theorem State.wakeBreakSeen_of_not_reached {s : State} (h : s.wakeDet.reached = false) : s.wakeBreakSeen = s := by
  simp [State.wakeBreakSeen, h]

/-- The bit time that makes the wake detector's run 14 wakes the controller with the break (R170). -/
theorem State.wakeBreakSeen_of_reached {s : State} (h : s.wakeDet.reached = true) : s.wakeBreakSeen = s.wakeBreak := by
  simp [State.wakeBreakSeen, h]

/-- One bit time at a wake detector that watches: the break, or one more low bit time of a run (R170, log 18). -/
theorem State.tickWakeDet_of_watching {s : State} (h : s.watching = true) :
    s.tickWakeDet = if s.wakeDet.reached then s.wakeBreak.settle else s.setWakeDet s.wakeDet.low := by
  simp [State.tickWakeDet, h]

/-- A transmission starts from Guard, with an active receiver, no edge pending and the guard gap reached (R13). -/
theorem State.canTransmit_iff (s : State) :
    s.canTransmit = true ↔ s.link.state = .guard ∧ s.tx.phase = .off ∧ s.rx.active = true ∧ s.rx.inChar = false ∧
      ∃ n, s.rx.idle = some n ∧ s.line.guardEff ≤ n := by
  simp [State.canTransmit, State.guardReached, Option.any_eq_true, and_assoc]

/-! ## Doze -/

/-- The six conditions of R167, and that LDE is low (R1, log 17). -/
theorem State.quiet_iff (s : State) :
    s.quiet = true ↔ s.anySlot = false ∧ s.rxp.buffers = [] ∧ s.cq.holding = [] ∧ s.cmd.queue = [] ∧
      (s.link.state = .idle ∨ s.link.state = .disabled) ∧
      (s.line.role = .member ∨ s.link.pollen = false ∨ s.link.en = false) ∧ s.tx.phase = .off := by
  simp [State.quiet, and_assoc, or_assoc]

/-! ## The drain -/

/-- The payload step writes as many bytes as are delivered and not written yet (R125). -/
theorem RxFrame.length_unwritten (f : RxFrame) (buffer : Word) (capacity : Byte) (written : Nat) :
    (f.unwritten buffer capacity written).length = f.delivered capacity - written := by
  simp [RxFrame.unwritten, RxFrame.delivered, Nat.min_comm]

/-- Byte `written + i` of the payload goes to Buffer + (written + i) (R125). -/
theorem RxFrame.getElem?_unwritten (f : RxFrame) (buffer : Word) (capacity : Byte) (written i : Nat)
    (h : written + i < f.delivered capacity) :
    (f.unwritten buffer capacity written)[i]? =
      f.payload[written + i]?.map fun b => (buffer + BitVec.ofNat 32 (written + i), b) := by
  have hc : written + i < capacity.toNat := lt_of_lt_of_le h (Nat.min_le_right _ _)
  simp [RxFrame.unwritten, List.getElem?_mapIdx, List.getElem?_drop, hc]

/-! ## The Channel Cache -/

/-- The entry at the head is the one found (R81, R83). -/
theorem ChannelMap.find_toHead (m : ChannelMap) (e : CacheEntry) : (m.toHead e).find e.chan = some e := by
  simp [ChannelMap.find, ChannelMap.toHead, Config.cacheEntries]

/-- A removed channel is not found (R93). -/
theorem ChannelMap.find_remove (m : ChannelMap) (c : Channel) : (m.remove c).find c = none := by
  simp [ChannelMap.find, ChannelMap.remove]

/-- The cache never grows past its places (R80). -/
theorem ChannelMap.length_toHead (m : ChannelMap) (e : CacheEntry) : (m.toHead e).cache.length ≤ 16 := by
  simp [ChannelMap.toHead, Config.cacheEntries]

/-- A change in place moves nothing and adds nothing (R83). -/
theorem ChannelMap.chans_update (m : ChannelMap) (c : Channel) (f : MapEntry → MapEntry) :
    (m.update c f).cache.map (·.chan) = m.cache.map (·.chan) := by
  simp only [ChannelMap.update, List.map_map]
  congr 1
  funext x
  simp only [Function.comp]
  split
  · rfl
  · rfl

/-! ## The Fault Unit -/

/-- Presentation does nothing, or moves the best pending fault into the empty record and sets FAULT (R153). -/
theorem State.present_cases (s : State) :
    s.present = s ∨
      ∃ i r, s.flt.record = none ∧ s.flt.best = some (i, r) ∧
        s.present =
          (s.setFlt { record := some r, waiting := s.flt.waiting.set i none }).raise .fault := by
  unfold State.present
  split
  · rename_i i r h1 h2
    exact .inr ⟨i, r, h1, h2, rfl⟩
  · exact .inl rfl

/-- A fault posted while another is presented only waits in the place of its source (R152, R153). -/
theorem State.post_of_record {s : State} {g : FaultRecord} (f : FaultRecord) (h : s.flt.record = some g) :
    s.post f = s.setFlt { s.flt with waiting := s.flt.waiting.set f.source.code (some f) } := by
  simp [State.post, State.present, h]

/-- The end of a release presents the pending fault of the highest priority (R155). -/
theorem State.nextFault_of_best {s : State} {i : Fin 7} {g : FaultRecord}
    (h : ({ s.flt with record := none } : FaultUnit).best = some (i, g)) :
    s.nextFault =
      (s.setFlt { record := some g, waiting := s.flt.waiting.set i none }).raise .fault := by
  simp [State.nextFault, State.present, h, State.setFlt]

/-! ## Staging -/

theorem find_rings4 (q : Fin 4 → Bool) (p : Fin 4) :
    rings4.find? q = some p ↔ q p = true ∧ ∀ j : Fin 4, j < p → q j = false := by
  unfold rings4
  cases h0 : q 0 <;> cases h1 : q 1 <;> cases h2 : q 2 <;> cases h3 : q 3 <;> revert p <;>
    simp [List.find?, Fin.forall_fin_succ, h0, h1, h2, h3]

/-- The owner of an address is the lowest-numbered usable slot that holds it (R75). -/
theorem State.owner_iff (s : State) (p : Fin 4) (a : LineAddr) : s.owner a = some p ↔ s.Owns p a := by
  rw [State.owner, find_rings4, State.Owns]
  simp only [ListenSlot.usable, Bool.and_eq_true, Bool.and_eq_false_iff, bne_iff_ne, beq_iff_eq, bne_eq_false_iff_eq,
    beq_eq_false_iff_ne]
  grind

theorem State.stagingFault_map (s : State) (k : Fin 2) (m : Message) (kind : FaultKind) (p : FaultPhase) (c : Channel)
    (a : Word) : (s.stagingFault k m kind p c a).map = s.map := by
  unfold State.stagingFault State.post
  rcases State.present_cases (State.setFlt _ _) with h | ⟨_, _, _, _, h⟩ <;> rw [h] <;> rfl

theorem State.beginMark_map (s : State) (k : Fin 2) (m : Message) (w : Working) : (s.beginMark k m w).map = s.map := by
  unfold State.beginMark State.markEnds State.beginLoad
  split <;> (try split) <;> rfl

/-- The Station, Permission and Length steps and the begin of MARK leave the cache as it is (R84). -/
theorem State.checkCopy_map (s : State) (k : Fin 2) (m : Message) (e : MapEntry) (a : Word) (b : Bool) :
    (s.checkCopy k m e a b).map = s.map := by
  unfold State.checkCopy
  split
  · exact s.stagingFault_map ..
  · split
    · exact s.stagingFault_map ..
    · split
      · exact s.stagingFault_map ..
      · exact s.beginMark_map ..

/-! ## Registers -/

/-- Where no start is due a host read returns what the offset shows. -/
theorem State.hostRead_of_due {s : State} (w : AccessWidth) (off : BitVec 12) (h : s.due = s) :
    s.hostRead w off = s.readAt w off := by rw [State.hostRead, h]

theorem State.reset_due : State.reset.due = State.reset := rfl

/-- A write that a lock may bar either sets LOCKWR alone or takes its effect (R176). -/
theorem State.lockable_cases (s : State) (locked : Bool) (f : State → State) :
    (locked = true ∧ s.lockable locked f = s.lockedWrite) ∨ (locked = false ∧ s.lockable locked f = f s) := by
  cases locked
  · exact .inr ⟨rfl, rfl⟩
  · exact .inl ⟨rfl, rfl⟩

end Sys2Proof.Machine
end

