-- ==== Sys2Proof/WellFormed.lean ====
section
/-! DEFINITION. The operand values that a command of the table can carry. The machine gives every command a next state,
well-formed or not; these checks say which operands mean what the row's name says. -/

namespace Sys2Proof

/-- A judged character has a sound start bit, or it would be a false start (R6, R7). -/
def RxChar.wf (c : RxChar) : Bool :=
  !((c.s4 &&& c.s5) ||| (c.s4 &&& c.s6) ||| (c.s5 &&& c.s6)).getLsbD 0

/-- A payload transaction moves 1..120 bytes (R105, R125). -/
def payloadCountWf (n : Nat) : Bool := 0 < n && n ≤ Config.payloadMax

/-- The operands of a command are in the ranges its row gives them. That a CHARACTER_RECEIVED with a start bit of 1 counts as
ill-formed even while a frame is sent, where it is an echo that is not sound (R15), is the model's choice (log 36): the check
does not look at the state, and `exec` gives that echo its effect. -/
def Instr.wf : Instr → Bool
  | .characterReceived c => c.wf
  | .wakeHeadCharacter c => c.wf
  | .payloadReadComplete _ (.data bytes) => payloadCountWf bytes.length
  | .rxPayloadWriteComplete _ count _ => payloadCountWf count
  | .illegalCommand op _ _ _ => 9 ≤ op.toNat
  | _ => true

end Sys2Proof
end

