-- ==== Sys2Proof/Tests/Slice0.lean ====
section
/-! SUPPORT. Tests of single commands against values worked out by hand from the spec, the checks of WellFormed on ill-formed
operands, and for each statement with hypotheses a state and operands that meet them. -/

namespace Sys2Proof.Tests

-- One theorem at a time: each evaluation waits for the ones before it, and every waiting one would hold a thread.
set_option Elab.async false

open Sys2Proof.Machine

/-! ## Helpers -/

/-- The state a command leaves. -/
def after (c : Instr) (s : State) : State :=
  match exec c s with
  | .next t => t
  | _ => s

/-- The state a run of commands leaves. -/
def run (s : State) (l : List Instr) : State := l.foldl (fun t c => after c t) s

/-- A character whose samples all agree. -/
def clean (b : Byte) (tag : Bool) : RxChar :=
  let p : BitVec 11 := 1#1 ++ BitVec.ofBool tag ++ b ++ 0#1
  ⟨p, p, p⟩

/-- The same with one sample of data bit 0 inverted. -/
def noisyChar (b : Byte) (tag : Bool) : RxChar := { clean b tag with s4 := (clean b tag).s4 ^^^ 2#11 }

/-- A character whose stop bit reads 0. -/
def badStop : RxChar := ⟨0, 0, 0⟩

/-- An enabled, idle anchor. -/
def linked : State :=
  ((State.reset.setLink { en := true, state := .idle }).setRx { active := true, idle := some 9 })

/-- An enabled, idle member with persona 5 in slot 0. -/
def memberIdle : State :=
  (linked.setLine { linked.line with role := .member, anchTo := 2 }).setLsn 0 { address := 5, enabled := true }

/-- A channel's snapshot: station 17, port 3, one retry. -/
def snap17 : Snapshot where
  chan := 9
  e := { p := true, station := 17, port := 3, retry := 1, maxLen := 64, fullLimit := 5, byte7 := 1 }
  addr := 0x4048
  persona := 0
  bcast := false

/-- A Ready message of ring 1. -/
def readyMsg : Message where
  ring := 1
  index := 0
  txn := 0x1000
  phase := .ready
  chan := 9
  length := 2
  snap := some snap17
  payload := [0xAA, 0x55]

/-- Ring 1 Running. -/
def ring1 : State := linked.setRing 1 { base := 0x1000, state := .running }

/-- Ring 1 Running with a message in slot 0. -/
def holdingMsg (m : Message) : State := ring1.setSlot 0 (some m)

/-- The link in a state with an exchange. -/
def inState (s : State) (st : LinkState) (x : Exchange) : State := s.setLink { s.link with state := st, x := x }

/-- An outbound attempt of the message. -/
def outbound17 : Exchange :=
  { kind := .outbound, station := 17, slot := some 0, out := { kind := .data }, met := true }

/-- The anchor awaits the reply to the message. -/
def awaiting17 : State := inState (holdingMsg readyMsg) .awaiting outbound17

/-- A frame being sent. -/
def sendingTx (s : State) : State := s.setTx { phase := .frame, chars := frameChars 17 0 .poll false 0 0 [] }

/-- A buffer with one frame of two bytes. -/
def frame2 : RxFrame := { peer := 17, port := 3, payload := [1, 2], persona := 0, bcast := false }

/-- A receive path ready to drain. -/
def rxReady : State :=
  State.reset.setRxp { State.reset.rxp with base := 0x2000, prod := 1, en := true, buffers := [frame2] }

/-- A drain at a step. -/
def draining (st : DrainStep) : State :=
  rxReady.setRxp { rxReady.rxp with drain := some { addr := 0x2000, step := st } }

/-- A notice at the head of the holding list. -/
def noticeEntry : Entry := { kind := .ringStopped, waiter := .notice, ring := 1 }

/-- A held entry, with its record write in flight. -/
def writing (e : Entry) (s : State) : State :=
  s.setCq { s.cq with holding := [e], inFlight := some { addr := 0, w0 := e.word0 true, w1 := 0, w2 := 0, w3 := 0 } }

/-- A presented fault of a source. -/
def presented (src : Source) (k : FaultKind) (p : FaultPhase) : FaultRecord :=
  { source := src, kind := k, phase := p, index := 0, chan := 0, addr := 0 }

/-- The controller in a power state. -/
def inPower (s : State) (p : Power) : State := s.setGlb { s.glb with power := p }

/-- The controller held after power-on. -/
def heldState : State := State.reset.setGlb { State.reset.glb with porHeld := true }

/-- A dozing member with its link enabled. -/
def dozing : State := inPower (memberIdle.setRx {}) .doze

/-! ## Well-formed operands -/

/-- A start bit that reads 1 is a false start, not a character (R7). -/
theorem test_wf_rejects_start_bit_one : (Instr.characterReceived ⟨1, 1, 0⟩).wf = false := by decide +kernel

theorem test_wf_rejects_wake_start_bit_one : (Instr.wakeHeadCharacter ⟨1, 0, 1⟩).wf = false := by decide +kernel

theorem test_wf_accepts_noisy_start : (Instr.characterReceived ⟨1, 0, 0⟩).wf = true := by decide +kernel

theorem test_wf_rejects_empty_read : (Instr.payloadReadComplete .live (.data [])).wf = false := by decide +kernel

theorem test_wf_rejects_long_read :
    (Instr.payloadReadComplete .live (.data (List.replicate 121 0))).wf = false := by decide +kernel

theorem test_wf_rejects_empty_write : (Instr.rxPayloadWriteComplete .live 0 .ok).wf = false := by decide +kernel

theorem test_wf_rejects_long_write : (Instr.rxPayloadWriteComplete .live 121 .ok).wf = false := by decide +kernel

theorem test_wf_rejects_legal_op : (Instr.illegalCommand 8 false 0 0).wf = false := by decide +kernel

theorem test_wf_accepts_illegal_op : (Instr.illegalCommand 9 false 0 0).wf = true := by decide +kernel

/-! ## Words of the spec -/

/-- Source 05 and Control 05 give B25F (02 section 2.4, R22). -/
theorem test_check_value : crcOf [0x05, 0x05] = 0xB25F := by decide +kernel

/-- NONE from persona 5 to the anchor: 00, 05, 05, B2, 5F, the first with tag 1 (R18, R24). -/
theorem test_none_frame :
    frameChars 0 5 .none false 0 0 [] =
      [⟨0x00, true⟩, ⟨0x05, false⟩, ⟨0x05, false⟩, ⟨0xB2, false⟩, ⟨0x5F, false⟩] := by decide +kernel

/-- The Control bytes of R20: DATA(1), ACK(1), NAK(REFUSED), POLL, NONE(RESYNC WANTED), SYNC. -/
theorem test_control_bytes :
    [controlByte .data true 0, controlByte .ack true 0, controlByte .nak true 2, controlByte .poll true 0,
      controlByte .none true 1, controlByte .sync true 0] = [0x11, 0x12, 0x43, 0x04, 0x25, 0x06] := by decide +kernel

/-- 0x00021088 is RING STOP of ring 2 with NOTIFY and tag 0x10 (R144). -/
theorem test_command_word :
    cmdOfWord 0x00021088 = { op := 8, notify := true, tag := 0x10, arg := 2 } := by decide +kernel

/-- The row bits: no word spells a command (log 29). -/
theorem test_no_word_decodes : decodeTableWord 32 0x00021088 = none := by decide +kernel

/-- PLIST31, TXPROD3, TIMEOUTS and an undefined offset (R174, R175). -/
theorem test_register_map :
    [regAt 0x0FC, regAt 0x1A8, regAt 0x328, regAt 0x32C, regAt 0x002] =
      [some (.plist 31), some (.txprod 3), some (.counter .timeouts), none, none] := by decide +kernel

/-- A MESSAGE record of ring 1, code NO_REPLY, 2 attempts, last cause TIMEOUT, phase 1 (R134, R135). -/
theorem test_record_word0 :
    ({ readyMsg with attempts := 2, lastCause := .timeout, code := .noReply }.entry 0).word0 true = 0x22010181 := by
  decide +kernel

/-! ## Commands -/

/-- A noisy character counts NOISE and a bad stop bit FRAMING (R6, R8). -/
theorem test_noise_counted :
    ((after (.characterReceived (noisyChar 0x41 false)) linked).counters.noise,
      (after (.characterReceived badStop) linked).counters.framing) = (1, 1) := by decide +kernel

/-- NONE from station 5, received while the anchor is idle, is STRAY (R53). -/
theorem test_stray_frame :
    (run linked ((frameChars 0 5 .none false 0 0 []).map fun c => .characterReceived (clean c.byte c.tag))).counters.stray
      = 1 := by decide +kernel

/-- A POLL for persona 5 with nothing to send is answered NONE (R55). -/
theorem test_poll_answered :
    (run memberIdle
      ((frameChars 5 0 .poll false 0 0 []).map fun c => .characterReceived (clean c.byte c.tag))).link.x.out
      = { kind := .none } := by decide +kernel

/-- ACK(0) completes the message and its record is issued at CQBASE (R45, R134, R137). -/
theorem test_ack_completes :
    ((awaiting17.validFrame { dest := 0, src := 17, kind := .ack, seq := false, detail := 0, port := 0, payload := [] }).recordIssue.cq.inFlight.map
      (·.w0)) = some 0x01000181 := by decide +kernel

/-- The pool of eleven counters clears one at a time (R16). -/
theorem test_counter_clear :
    (after (.counterClear .gap 7) (State.reset.setCounters { gap := 5, check := 6 })).counters =
      { gap := 0, check := 6 } := by decide +kernel

/-- RXSIZE below 2 and above 8 (R118). -/
theorem test_rxsize_clamped :
    ((after (.rxsizeWrite 1) State.reset).rxp.size, (after (.rxsizeWrite 9) State.reset).rxp.size) = (2, 8) := by
  decide +kernel

/-- A TXPROD value equal to the size is out of range (R100). -/
theorem test_doorbell_range :
    ((after (.txDoorbell 0 3) State.reset).ring 0).prod = 3 ∧
      (after (.txDoorbell 0 4) State.reset).glb.intstat = 0x200 := by decide +kernel

/-- A locked LDIV write sets only LOCKWR (R2, R176); an unlocked one below 4 stores 4. -/
theorem test_ldiv_write :
    (after (.registerWrite .word 0x020 7) linked).glb.lockWr = true ∧
      (after (.registerWrite .word 0x020 3) State.reset).line.div = 4 := by decide +kernel

/-- A ninth command is dropped with OVERFLOW (R145): the first, LINE BREAK, waits at the head. -/
theorem test_command_overflow :
    (run (linked.setLink {}) (List.replicate 9 (.lineBreak false 0x33 0))).cmd.errCode = .overflow := by
  decide +kernel

/-- RING STOP of a Running ring leaves a RING_STOPPED notice (R115). -/
theorem test_ring_stop :
    ((after (.ringStop false 0 1) ring1).ring 1).state = .stopped ∧
      (after (.ringStop false 0 1) ring1).cq.holding = [noticeEntry] := by decide +kernel

/-- A receive descriptor with Capacity 1: the second byte is cut off and word 2 says so (R121, R125). -/
theorem test_truncated_word2 : rxWord2 frame2 1 = 0x02000000 ||| (1 <<< 12) ||| (3 <<< 8) ||| 17 := by decide +kernel

/-- Queued commands run first in, first out, one a step. -/
theorem test_queue_order :
    (State.reset.setPending [.rxEnable, .rxDisable]).pending.head? = some .rxEnable := by decide +kernel

/-! ## Points where a unit could act too early, too late or twice -/

/-- The frame at the head of the buffer list struck by a disturbance. -/
def unsoundHead (s : State) : State := s.setRxp { s.rxp with buffers := [{ frame2 with sound := false }] }

/-- A POLL still being sent after EN was written 0 and the role became member. -/
def memberPoll : State :=
  let s := sendingTx (inState linked .sending { kind := .poll, station := 17, out := { kind := .poll } })
  (s.setLink { s.link with en := false, offPending := true }).setLine { s.line with role := .member }

/-- Thirteen whole low bit times are not yet a break; the fourteenth is (R10). -/
theorem test_break_at_fourteen :
    let s := linked.setRx { active := true, inChar := true, brk := .counting 12 }
    (s.tick.counters.breaks, s.tick.tick.counters.breaks) = (0, 1) ∧ s.tick.tick.rx.brk = .rearming := by
  decide +kernel

/-- TRANSMISSION_START one bit time before the guard gap of 4, and at it (R13). -/
theorem test_start_at_guard :
    let s (n : Nat) := inState (linked.setRx { active := true, idle := some n }) .guard
      { kind := .poll, station := 17, out := { kind := .poll } }
    ((after .transmissionStart (s 3)).lde, (after .transmissionStart (s 4)).lde) = (false, true) := by decide +kernel

/-- Head-frame parity found as the descriptor read completes: Halt, and no transaction is left in flight (R159, R161). A read
that fails reads no frame: the drain's fault (R128). -/
theorem test_halting_completion_is_over :
    let s := unsoundHead (draining .desc)
    let t := after (.rxDescriptorReadComplete .live (.data 0x3000 8 0 0)) s
    t.glb.haltCause = .rxbufParity ∧ t.bus = {} ∧
      (after (.rxDescriptorReadComplete .live .error) s).rxp.faulted = true := by decide +kernel

/-- In Doze the thirteenth low bit time of a run wakes nothing; the fourteenth is a break without FRAMING (R170). -/
theorem test_dozing_break_at_fourteen :
    let t (n : Nat) := (dozing.setWakeDet (.counting n)).tick
    ((t 12).glb.power, (t 12).counters.breaks, (t 12).wakeDet) = (.doze, 0, .counting 13) ∧
      ((t 13).glb.power, (t 13).counters.breaks, (t 13).counters.framing) = (.run, 1, 0) := by decide +kernel

/-- A POLL that ends after the role has become member changes no record (R62). -/
theorem test_member_changes_no_record :
    (after .frameSent memberPoll).stn = linked.stn ∧ (after .frameSent memberPoll).link.state = .disabled := by
  decide +kernel

/-- A decision reads the attempted mark of a message in finishing that could lock a Ready one (R42, R159). -/
theorem test_lock_reads_finishing_slot :
    (after .decision ((holdingMsg readyMsg).setSlot 1 (some
      { readyMsg with ring := 0, phase := .finishing .errWrite, sound := false }))).glb.haltCause = .stagingParity := by
  decide +kernel

/-- RING STOP of a message between attempts reads its slot: unsound parity halts (R103, R159). -/
theorem test_ring_stop_reads_slot :
    (after (.ringStop false 0 1) ((memberIdle.setRing 1 (ring1.ring 1)).setSlot 0
      (some { readyMsg with attempted := true, sound := false }))).glb.haltCause = .stagingParity := by decide +kernel

/-! ## Witnesses: a state and operands that meet the hypotheses of each statement, one for each clause -/

theorem witness_StepRunsFrontCommand :
    (State.reset.pending = [] ∧ heldState.pending = [] ∧ heldState.held = true) ∧
    (heldState.upsets = [] ∧ heldState.awake = false ∧ heldState.live = false) ∧
    (dozing.pending = [] ∧ dozing.upsets = [] ∧ dozing.awake = false ∧
      dozing.watching = true ∧ dozing.wakeDet = .armed) := by decide +kernel

theorem witness_InternalRowsNeedWorkingController :
    (heldState.awake = false ∧ heldState.watching = false ∧ Instr.fallingEdge.internal = true) ∧
    (dozing.awake = false ∧ dozing.watching = true ∧ Instr.dozeEntry.internal = true ∧
      Instr.transmissionEndAfterBreak.internal = true) ∧
    (∀ s ∈ [linked, heldState, dozing, inPower (linked.setRx {}) .halt], s.LineReleased) ∧ step linked = .next linked.tick := by
  refine ⟨by decide +kernel, by decide +kernel, ?_, rfl⟩
  unfold State.LineReleased
  decide +kernel

theorem witness_HeldAndHaltIgnoreWrites :
    (heldState.held = true ∧ Instr.softReset.setsHold = false ∧ Instr.softReset.completesDma = false ∧
      Instr.softReset.readsRegister = false) ∧
    ((inPower linked .halt).halted = true ∧ Instr.rxEnable.setsHold = false ∧ Instr.rxEnable.completesDma = false ∧
      Instr.rxEnable.readsRegister = false ∧ Instr.rxEnable.openInHalt = false) ∧
    (regAt 0x018).any Reg.openInHalt = false ∧ (Instr.walkComplete .live .error).completesDma = true := by
  decide +kernel

theorem witness_QuietEventsChangeNothing :
    (linked.cq.holding = [] ∧ linked.rxp.canDrain = false ∧ (∀ n : Fin 4, linked.stageable n = false) ∧
      linked.glb.power ≠ .dozePending ∧ linked.decides = true ∧ linked.cmd.queue = [] ∧ linked.slot 0 = none ∧
      linked.slot 1 = none ∧ linked.link.pollen = false) ∧ memberIdle.decides = false ∧
    (inPower linked .halt).halted = true := by decide +kernel

theorem witness_ConfigurationFrame :
    Instr.softReset.configures = false ∧ exec .softReset linked = .next linked.softReset := by
  exact ⟨by decide +kernel, rfl⟩

theorem witness_ResetRegisterValues : (126 : LineAddr) ≠ 0 ∧ (126 : LineAddr) ≠ 127 := by decide +kernel

theorem witness_FullResetsGiveResetValues : heldState.held = true := by decide +kernel

theorem witness_SoftResetKeepsConfiguration :
    linked.due.held = false ∧ (inPower linked .halt).due.held = false ∧ (1 : LineAddr) ≠ 0 ∧ (1 : LineAddr) ≠ 127 := by
  decide +kernel

/-- A request with a message staged, which leaves Doze-Pending. -/
def pendingDoze : State := inPower (holdingMsg readyMsg) .dozePending

theorem witness_DozeRequestAndCancel :
    (State.reset.due.live = true ∧ State.reset.due.glb.power = .run ∧ State.reset.due.quiet = true) ∧
    ((draining .desc).due.live = true ∧ (draining .desc).due.glb.power = .run ∧ (draining .desc).due.quiet = false) ∧
    (pendingDoze.due.live = true ∧ pendingDoze.due.glb.power = .dozePending) ∧
    (dozing.due.live = true ∧ dozing.due.glb.power = .doze) := by decide +kernel

/-- The link back in Idle after a break, a character of the cut frame still being sent. -/
def finishing (s : State) : State := s.setTx { phase := .frame, afterBreak := true }

/-- LDE is low throughout Doze (R1): it is not entered while a character cut by a break is still being sent, and is at the end
of that character (R11, R167). -/
theorem test_doze_waits_for_lde :
    let s := inPower (finishing linked) .dozePending
    (after .dozeEntry s).glb.power = .dozePending ∧ (after .transmissionEndAfterBreak s).lde = false ∧
      (after .dozeEntry (after .transmissionEndAfterBreak s)).glb.power = .doze := by decide +kernel

theorem witness_DozeEntered :
    (∀ s ∈ [inPower linked .dozePending],
      s.held = false ∧ s.glb.power = .dozePending ∧ s.anySlot = false ∧ s.rxp.buffers = [] ∧ s.cq.holding = [] ∧
        s.cmd.queue = [] ∧ s.link.state = .idle ∧ s.link.pollen = false ∧ s.lde = false) ∧
    ((inPower (finishing linked) .dozePending).held = false ∧ (inPower (finishing linked) .dozePending).lde = true) ∧
    (pendingDoze.held = false ∧ pendingDoze.anySlot = true) := by decide +kernel

theorem witness_WakeReturnsToRun :
    dozing.held = false ∧ dozing.glb.power = .doze ∧ dozing.link.state ≠ .disabled ∧
      (inPower State.reset .doze).link.en = false := by decide +kernel

/-- A state with LCFG.BRKSYNC set. -/
def breakSyncing (s : State) : State := s.setLine { s.line with brkSync := true }

theorem witness_WakeDetectorWakes :
    (dozing.due.watching = true ∧ dozing.due.wakesOn (clean 5 true) = true ∧
      dozing.due.wakesOn (clean 6 true) = false ∧ dozing.due.link.state = .idle ∧ dozing.due.line.brkSync = false) ∧
    ((breakSyncing dozing).due.watching = true ∧ (breakSyncing dozing).due.link.state = .idle ∧
      (breakSyncing dozing).due.line.brkSync = true ∧ (breakSyncing dozing).due.listenUnsound = false ∧
      ((breakSyncing dozing).due.lsn 0).enabled = true) := by decide +kernel

theorem witness_WakeDetectorWakes_run :
    (clean 6 true).start = false ∧ (clean 6 true).stop = true ∧ dozing.due.wakeDet = .armed ∧
    (∀ n ∈ [0, 12, 13, 14], ∀ s ∈ [(breakSyncing dozing).setWakeDet (.counting n)],
      s.due.watching = true ∧ s.due.wakeDet = .counting n ∧ s.pending = [] ∧ s.upsets = [] ∧
        s.glb.power = .doze ∧ s.due.link.state = .idle ∧ s.due.listenUnsound = false) ∧
    (∀ n ∈ [0, 12], BreakDet.low (.counting n) ≠ .counting 14) := by decide +kernel

theorem witness_CharacterJudged :
    (linked.due.awake = true ∧ linked.due.rx.active = true ∧ linked.due.tx.phase = .off ∧
      (noisyChar 0 true).start = false ∧ badStop.start = false ∧ badStop.stop = false) ∧
    (∀ s ∈ [linked.setRx { active := true, inChar := true, brk := .counting 9 }],
      s.due.awake = true ∧ s.due.rx.active = true ∧ s.due.tx.phase = .off ∧ s.due.rx.inChar = true ∧
        (noisyChar 0 true).stop = true) ∧
    ((sendingTx linked).due.awake = true ∧ (sendingTx linked).due.rx.active = true ∧
      (sendingTx linked).due.tx.phase = .frame) := by decide +kernel

/-- An idle anchor whose receiver stands as given. -/
def withRx (r : LineRx) : State := linked.setRx r

theorem witness_EdgesAndIdlePoints :
    (∀ r ∈ ([{ active := true }, { active := true, inChar := true }, { active := true, stopEnd := true },
        { active := true, awaitHigh := true }, { active := true, brk := .rearming },
        { active := true, brk := .counting 13 }] : List LineRx),
      (withRx r).due.awake = true ∧ (withRx r).due.rx = r ∧ r.active = true ∧ (withRx r).due.tx.phase = .off) := by
  decide +kernel

/-- A counted frame whose Source character is awaited, the receiver as given. -/
def inHeader (r : LineRx) : State := (withRx r).setFrx { state := .header .source, counted := true }

theorem witness_FalseStartIgnored :
    (∀ g ∈ [some 2, some 3], ∀ s ∈ [inHeader { active := true, inChar := true, gap := g }],
      s.due.awake = true ∧ s.due.rx.active = true ∧ s.due.tx.phase = .off ∧ s.due.rx.inChar = true ∧
        s.due.awaitingReply = false ∧ s.due.rx.gap = g ∧ s.due.frx.state ≠ .hunt) := by decide +kernel

theorem witness_GapLimitTruncates :
    let s := inHeader { active := true, gap := some 3 }
    s.due.awake = true ∧ s.due.rx.active = true ∧ s.due.rx.stopEnd = false ∧ s.due.rx.gap.isSome = true ∧
      s.due.rx.inChar = false ∧ s.due.frx.state ≠ .hunt := by decide +kernel

/-- A member that awaits the reply to the message of slot 0, sent for persona 5 of slot 0. -/
def memberSent (m : Message) : State :=
  inState ((memberIdle.setRing 1 { base := 0x1000, state := .running }).setSlot 0 (some m)) .awaiting
    { kind := .member, station := 5, slot := some 0, out := { kind := .data } }

/-- The message with so many attempts behind it. -/
def attemptMsg (n : Nat) : Message := { readyMsg with attempts := n, attempted := true }

/-- A state whose break detector stands as given. -/
def atRun (d : BreakDet) (s : State) : State := s.setRx { active := true, brk := d }

theorem witness_BreakDetectedActs :
    (∀ n ∈ [13, 14], ∀ s ∈ [sendingTx (inState (atRun (.counting n) linked) .sending { kind := .poll })],
      s.due.awake = true ∧ s.due.rx.active = true ∧ s.due.tx.phase = .frame ∧ s.due.rx.brk = .counting n) ∧
    (∀ d ∈ [BreakDet.armed, .counting 12, .rearming],
      (atRun d linked).due.awake = true ∧ (atRun d linked).due.rx.brk.low ≠ .counting 14) ∧
    (∀ s ∈ [atRun (.counting 13) (breakSyncing memberIdle)],
      s.due.awake = true ∧ s.due.rx.active = true ∧ s.due.tx.phase ≠ .brk ∧ s.due.rx.brk = .counting 13 ∧
        s.due.line.role = .member ∧ s.due.line.brkSync = true ∧ s.due.listenUnsound = false ∧
        s.due.link.state = .idle) ∧
    (∀ n ∈ [0, 1], ∀ s ∈ [atRun (.counting 13) (breakSyncing (memberSent (attemptMsg n)))],
      s.due.awake = true ∧ s.due.rx.active = true ∧ s.due.tx.phase ≠ .brk ∧ s.due.rx.brk = .counting 13 ∧
        s.due.line.brkSync = true ∧ s.due.listenUnsound = false ∧ s.due.MemberAwaits 0 (attemptMsg n) ∧
        s.due.ReadyIn (attemptMsg n) snap17 ∧ s.due.ExchangeRuns) ∧ snap17.e.retry.toNat = 1 := by
  unfold State.MemberAwaits State.ReadyIn State.ExchangeRuns State.LinkStays
  decide +kernel

theorem witness_BuiltFramesAreDelivered :
    let p : List Byte := List.replicate 120 0x55
    (linked.frx.state = .hunt ∧ linked.halted = false ∧ ¬(linked.link.state = .guard ∧ linked.link.x.kind = .member) ∧
      linked.addressed 0 = true ∧ linked.sourceValid 126 = true ∧ Kind.data.permits 0 = true ∧
      Kind.data.seqFixed = false ∧ p.length ≤ 120) ∧
    (memberIdle.frx.state = .hunt ∧ memberIdle.halted = false ∧ memberIdle.addressed 127 = true ∧
      memberIdle.sourceValid 0 = true ∧ Kind.sync.permits 0 = true) := by decide +kernel

/-- A counted frame at a header field. -/
def atField (f : HeaderField) : State := linked.setFrx { state := .header f, counted := true }

/-- A byte that violates each field and the last one that does not (R23). -/
theorem witness_FormatViolationsFound :
    (∀ f ∈ [HeaderField.source, .control, .port, .length],
      (atField f).frx.state = .header f ∧ (atField f).frx.counted = true) ∧
    [(0x80 : Byte), 0x23, 0x10, 121].length = 4 ∧ Kind.nak.permits 1 = true ∧ Kind.ack.permits 1 = false := by
  decide +kernel

/-- A break with BRKSYNC at a member, inside a frame and past the reply deadline: no discard notice, so the attempt fails
BREAK and TIMEOUTS is not counted (R31, R59). -/
theorem test_break_sync_gives_no_notice :
    let s := atRun (.counting 13) (breakSyncing (memberSent readyMsg))
    let t := after .breakDetected ((s.setLink { s.link with x := { s.link.x with met := true, passed := true } }).setFrx
      { state := .body, counted := true })
    (t.slot 0).map (·.lastCause) = some .brk ∧ t.counters.timeouts = 0 := by decide +kernel

theorem witness_OutboundAcknowledged :
    (let s := awaiting17;
      s.line.role = .anchor ∧ s.link.state = .awaiting ∧ s.link.x.met = true ∧ s.link.x.kind = .outbound ∧
        s.link.x.slot = some 0 ∧ s.slot 0 = some readyMsg ∧ s.exchangeUnsound = none ∧ s.halted = false ∧
        s.LinkStays ∧ s.link.x.station = 17 ∧ s.link.x.seq = false) ∧
    (let s := memberSent readyMsg;
      s.MemberAwaits 0 readyMsg ∧ s.ExchangeRuns ∧ (5 : LineAddr) ≠ 127 ∧ s.owner 5 = some s.link.x.lslot ∧
        s.link.x.seq = false) := by
  unfold State.MemberAwaits State.ExchangeRuns State.LinkStays
  decide +kernel

/-- The message with a FullCount. -/
def fullMsg (n : Byte) : Message := { readyMsg with fullCount := n }

theorem witness_OutboundNaks :
    (∀ c ∈ [(4 : Byte), 5], ∀ s ∈ [inState (holdingMsg (fullMsg c)) .awaiting outbound17],
      s.line.role = .anchor ∧ s.link.state = .awaiting ∧ s.link.x.met = true ∧ s.link.x.kind = .outbound ∧
        s.link.x.slot = some 0 ∧ s.slot 0 = some (fullMsg c) ∧ (fullMsg c).snap = some snap17 ∧ snap17.e.err = false ∧
        (fullMsg c).phase = .ready ∧ s.exchangeUnsound = none ∧ s.halted = false ∧ s.LinkStays ∧
        s.link.x.station = 17 ∧ snap17.e.fullLimit = 5 ∧ (s.ring (fullMsg c).ring).state = .running) := by
  unfold State.LinkStays
  decide +kernel

theorem witness_OutboundNaks_member :
    (∀ c ∈ [(4 : Byte), 5], ∀ s ∈ [memberSent (fullMsg c)],
      s.MemberAwaits 0 (fullMsg c) ∧ s.ReadyIn (fullMsg c) snap17 ∧ s.ExchangeRuns ∧
        s.owner 5 = some s.link.x.lslot) := by
  unfold State.MemberAwaits State.ReadyIn State.ExchangeRuns State.LinkStays
  decide +kernel

theorem witness_OutboundNaks_stray :
    (linked.line.role = .anchor ∧ (linked.awaitingReply && linked.link.x.met) = false) ∧
    ((awaiting17.awaitingReply && awaiting17.link.x.met) = true ∧ awaiting17.link.x.passed = false ∧
      (18 : LineAddr) ≠ awaiting17.link.x.station) ∧
    (awaiting17.AnchorHears .outbound ∧ awaiting17.ExchangeRuns ∧ awaiting17.link.x.slot = some 0 ∧
      awaiting17.slot 0 = some readyMsg ∧ awaiting17.ReadyIn readyMsg snap17 ∧
      readyMsg.attempts ≠ snap17.e.retry.toNat ∧ awaiting17.link.x.beganSilent = false ∧
      true ≠ awaiting17.link.x.seq) := by
  unfold State.AnchorHears State.ReadyIn State.ExchangeRuns State.LinkStays
  decide +kernel

theorem witness_OutboundTimesOut :
    (∀ n ∈ [0, 1], ∀ s ∈ [inState (holdingMsg (attemptMsg n)) .awaiting { outbound17 with met := false }],
      s.due.awake = true ∧ s.due.line.role = .anchor ∧ s.due.link.state = .awaiting ∧
        s.due.link.x.kind = .outbound ∧ s.due.link.x.met = false ∧
        (s.due.rx.inChar && s.due.link.x.inTime) = false ∧ s.due.exchangeUnsound = none ∧
        s.due.link.x.slot = some 0 ∧ s.due.slot 0 = some (attemptMsg n) ∧ (attemptMsg n).snap = some snap17 ∧
        snap17.e.err = false ∧ (attemptMsg n).phase = .ready ∧ (s.due.ring (attemptMsg n).ring).state = .running ∧
        s.due.LinkStays ∧ s.due.link.x.station = 17 ∧ snap17.e.retry.toNat = 1) := by
  unfold State.LinkStays
  decide +kernel

theorem witness_OutboundTimesOut_others :
    (∀ s ∈ [inState linked .awaiting { kind := .poll, station := 126 }],
      s.due.awake = true ∧ s.due.line.role = .anchor ∧ s.due.link.state = .awaiting ∧ s.due.link.x.kind = .poll ∧
        s.due.link.x.met = false ∧
        (s.due.rx.inChar && s.due.link.x.inTime) = false ∧ s.due.ExchangeRuns ∧ s.due.link.x.station = 126) ∧
    (∀ n ∈ [0, 1], ∀ s ∈ [memberSent (attemptMsg n)],
      s.due.awake = true ∧ s.due.MemberAwaits 0 (attemptMsg n) ∧ s.due.ReadyIn (attemptMsg n) snap17 ∧
        s.due.ExchangeRuns ∧ s.due.link.x.met = false ∧ (s.due.rx.inChar && s.due.link.x.inTime) = false) := by
  unfold State.MemberAwaits State.ReadyIn State.ExchangeRuns State.LinkStays
  decide +kernel

/-- The anchor hears the reply to its poll of station 17; its receive path is enabled and holds the frames given. -/
def polled (en : Bool) (b : List RxFrame) : State :=
  inState (linked.setRxp { linked.rxp with en := en, buffers := b }) .awaiting { kind := .poll, station := 17, met := true }

/-- A member with a Ready message of persona 5 in each slot, that of slot 1 of the lower class, and that of slot 0 as
given. -/
def twoReady (attempted : Bool) : State :=
  (((memberIdle.setRing 1 { state := .running }).setRing 0 { state := .running }).setSlot 0
    (some { readyMsg with attempted := attempted, snap := some { snap17 with persona := 0 } })).setSlot 1
    (some { readyMsg with ring := 0, snap := some { snap17 with persona := 0 } })

theorem witness_InboundDecided :
    (memberIdle.link.state = .idle ∧ memberIdle.rxp.en = false ∧
      (∀ b ∈ [[], [frame2], [frame2, frame2]],
        ∀ s ∈ [memberIdle.setRxp { memberIdle.rxp with en := true, buffers := b }],
          s.link.state = .idle ∧ s.rxp.en = true ∧ (s.lsn 0).inSeq = none) ∧
      ((memberIdle.setLsn 0 { address := 5, enabled := true, inSeq := some true }).lsn 0).inSeq = some true) ∧
    (∀ s ∈ [polled false [], polled true [], polled true [frame2], polled true [frame2, frame2],
        (polled true []).setStation 17 { inSeq := some true }, (polled true []).setStation 17 { accept := false }],
      s.AnchorHears .poll ∧ s.ExchangeRuns ∧ s.link.x.station = 17) ∧
    (memberIdle.link.state = .idle ∧ (memberIdle.lsn 0).sound = true ∧ (memberIdle.lsn 0).resyncWanted = false ∧
      memberIdle.readyUnsound = false ∧ memberIdle.pollPick 0 = none ∧
      ((memberIdle.setLsn 0 { address := 5, enabled := true, resyncWanted := true }).lsn 0).resyncWanted = true) ∧
    ((twoReady false).readyUnsound = false ∧ (twoReady false).pollPick 0 = some 1 ∧
      (twoReady true).answers 0 0 = true ∧ ((twoReady true).slot 0).any (·.attempted) = true ∧
      (twoReady true).pollPick 0 = some 0) ∧
    ((twoReady false).answers 0 0 = true ∧ (twoReady false).answers 0 1 = true ∧
      ((twoReady false).slot 0).any (·.attempted) = ((twoReady false).slot 1).any (·.attempted)) ∧
    (memberIdle.line.role = .member ∧ memberIdle.link.state ≠ .awaiting ∧
      (memberSent readyMsg).line.role = .member ∧ (memberSent readyMsg).link.state = .awaiting) := by
  unfold State.AnchorHears State.ExchangeRuns State.LinkStays
  decide +kernel

/-- A broadcast DATA of two bytes. -/
def bcastFrame : Frame := { dest := 127, src := 0, kind := .data, seq := true, detail := 0, port := 3, payload := [1, 2] }

/-- The receive path enabled or not, holding the frames given. -/
def hearing (en : Bool) (b : List RxFrame) (s : State) : State := s.setRxp { s.rxp with en := en, buffers := b }

/-- A broadcast DATA with a buffer free is staged, and with none free counted in RXDROP (R40). -/
theorem test_broadcast_staged :
    let v (b : List RxFrame) := (hearing true b memberIdle).validFrame bcastFrame
    ((v [frame2]).rxp.buffers.length, (v [frame2]).counters.rxdrop) = (2, 0) ∧
      ((v [frame2, frame2]).rxp.buffers.length, (v [frame2, frame2]).counters.rxdrop) = (2, 1) := by decide +kernel

theorem witness_BroadcastDataStaged :
    ∀ s ∈ [memberIdle, memberSent readyMsg], ∀ b ∈ [[], [frame2], [frame2, frame2]], ∀ en ∈ [true, false],
      (hearing en b s).line.role = .member ∧ bcastFrame.dest = 127 ∧ bcastFrame.kind = .data ∧
        ((hearing en b s).validFrame bcastFrame).halted = false ∧ (hearing en b s).rxp.en = en ∧
        (hearing en b s).rxp.buffers = b := by
  decide +kernel

theorem witness_MemberSyncs :
    ((memberIdle.lsn 0).sound = true ∧ memberIdle.link.state = .idle ∧ memberIdle.listenUnsound = false ∧
      (memberIdle.lsn 0).enabled = true ∧ (memberIdle.lsn 1).enabled = false) ∧
    (∀ x ∈ [(none : Option (Fin 2)), some 0],
      ∀ s ∈ [inState (holdingMsg readyMsg) .awaiting { kind := .dsync, station := 126, slot := x, met := true }],
        s.AnchorHears .dsync ∧ s.ExchangeRuns ∧ s.link.x.station = 126 ∧ s.slot 0 = some readyMsg ∧
          (s.ring readyMsg.ring).state = .running) := by
  unfold State.AnchorHears State.ExchangeRuns State.LinkStays
  decide +kernel

theorem witness_StationMarks :
    (∀ n ∈ [(1 : BitVec 4), 2], ∀ s ∈ [linked.setStation 126 { missCount := n }],
      (s.station 126).missCount = n ∧ (s.station 126).presence ≠ .silent) ∧ linked.line.missEff = 3 ∧
    (satInc (1 : BitVec 4)).toNat < 3 ∧ 3 ≤ (satInc (2 : BitVec 4)).toNat ∧
    ((linked.setStation 126 { presence := .silent }).station 126).presence = .silent := by
  decide +kernel

/-- The second miss of three leaves an UNKNOWN station as it was but for MissCount (R64). -/
theorem test_miss_below_limit :
    ((linked.setStation 17 { missCount := 1, resyncNeeded := false }).missMark 17).station 17 =
      { missCount := 2, resyncNeeded := false } := by decide +kernel

/-- The exchange in Guard, about to be sent. -/
def guarded (s : State) (x : Exchange) : State := inState s .guard x

theorem witness_TransmissionStarts :
    (∀ x ∈ [{ kind := .brk }, { outbound17 with met := false }, { kind := .poll, station := 17, out := { kind := .poll } },
        { kind := .bcast, station := 127, slot := some 0, out := { kind := .data } },
        { kind := .dsync, station := 17, slot := some 0, out := { kind := .sync } }],
      ∀ s ∈ [guarded ((holdingMsg readyMsg).setRx { active := true, idle := some 4 }) x],
        s.due.awake = true ∧ s.due.canTransmit = true ∧ s.due.exchangeUnsound = none ∧ s.due.link.x = x ∧
          s.due.slot 0 = some readyMsg) ∧
    (∀ o ∈ [({ kind := .data } : OutFrame), { kind := .ack, seq := true }],
      ∀ s ∈ [guarded (memberSent readyMsg) { kind := .member, station := 5, slot := some 0, out := o }],
        s.due.awake = true ∧ s.due.canTransmit = true ∧ s.due.exchangeUnsound = none ∧ s.due.link.x.out = o ∧
          s.due.slot 0 = some readyMsg) ∧
    readyMsg.snap = some snap17 ∧ linked.line.guardEff = 4 := by decide +kernel

theorem witness_FrameSentEnds :
    (∀ x ∈ [{ kind := .poll, station := 17 }, { kind := .poll, station := 17, tail := true },
        { kind := .syncAll, station := 127 }],
      ∀ s ∈ [sendingTx (inState linked .sending x)],
        s.due.awake = true ∧ s.due.rx.active = true ∧ s.due.tx.phase = .frame ∧ s.due.tx.afterBreak = false ∧
          s.due.tx.contention = false ∧ s.due.link.state = .sending ∧
          (s.due.link.en = true ∧ s.due.link.offPending = false) ∧ s.due.stationsUnsound = false ∧ s.due.link.x = x ∧
          s.due.line.role = .anchor) ∧
    (∀ k ∈ [XKind.poll, .syncAll], ∀ s ∈ [memberPoll.setLink { memberPoll.link with x := { kind := k } }],
      s.due.awake = true ∧ s.due.tx.phase = .frame ∧ s.due.tx.afterBreak = false ∧ s.due.line.role = .member ∧
        s.due.link.state = .sending ∧ s.due.link.x.kind = k) ∧
    (({ kind := .poll } : Exchange).isAttempt, ({ kind := .poll, tail := true } : Exchange).isAttempt) = (true, false) := by
  decide +kernel

theorem witness_FrameStoppedCounts :
    let s := (sendingTx (inState linked .sending { kind := .poll, station := 17 }))
    let c := s.setTx { s.tx with contention := true }
    (s.due.awake = true ∧ s.due.tx.phase = .frame ∧ s.due.tx.afterBreak = false ∧ s.due.link.state = .sending) ∧
      (c.due.awake = true ∧ c.due.tx.phase = .frame ∧ c.due.tx.afterBreak = false ∧ c.due.tx.contention = true) ∧
      (memberPoll.due.awake = true ∧ memberPoll.due.tx.phase = .frame ∧ memberPoll.due.tx.afterBreak = false ∧
        memberPoll.due.line.role = .member) := by
  decide +kernel

theorem witness_BreakEndsAndFrameEndsAfterBreak :
    let b := (inState (breakSyncing linked) .breaking { kind := .brk }).setTx { phase := .brk, bits := 24 }
    let f := finishing linked
    let d := f.setLink {}
    (d.due.awake = true ∧ d.due.tx.phase = .frame ∧ d.due.tx.afterBreak = true ∧ d.due.link.en = false) ∧
    (b.due.awake = true ∧ b.due.rx.active = true ∧ b.due.LinkStays ∧ b.due.tx.phase = .brk ∧
      b.due.link.state = .breaking ∧ b.due.line.brkSync = true ∧ b.due.line.role = .anchor ∧
      b.due.stationsUnsound = false) ∧
    (f.due.awake = true ∧ f.due.rx.active = true ∧ f.due.LinkStays ∧ f.due.tx.phase = .frame ∧
      f.due.tx.afterBreak = true) := by
  unfold State.LinkStays
  decide +kernel

theorem witness_TimersExpire_broadcast :
    let s := inState (holdingMsg { readyMsg with snap := some { snap17 with bcast := true } }) .awaiting
      { kind := .bcast, station := 127, slot := some 0, out := { kind := .data } }
    s.due.awake = true ∧ s.due.link.state = .awaiting ∧ s.due.link.x.kind = .bcast ∧ s.due.rx.idle.isSome = true ∧
      s.due.rx.inChar = false ∧ s.due.exchangeUnsound = none ∧ s.due.link.x.slot = some 0 ∧
      (s.due.slot 0).isSome = true ∧ (s.due.link.en = true ∧ s.due.link.offPending = false) := by decide +kernel

theorem witness_TimersExpire :
    let m := memberIdle.setLink { memberIdle.link with anchRunning := true }
    let q := linked.setCq { linked.cq with delay := 1, unsignalled := 1, timer := some 0 }
    (m.due.awake = true ∧ m.due.line.role = .member ∧ m.due.link.state ≠ .disabled ∧ m.due.link.anchRunning = true ∧
      m.due.line.anchTo ≠ 0) ∧ (q.due.awake = true ∧ q.due.cq.timer.isSome = true) := by decide +kernel

/-- A line command that waits at the head. -/
def waitingCmd (op : BitVec 4) : State :=
  linked.setCmd { queue := [{ op := op, notify := false, tag := 0, arg := 0 }], head := .waiting }

/-- Polling enabled on a list of two stations, the entry at PTR as given. -/
def polling (a : LineAddr) (ptr : BitVec 5) : State :=
  (linked.setLink { linked.link with pollen := true }).setPoll
    { entries := (Vector.replicate 32 a), len := 2, ptr := ptr }

/-- The message of slot 0 with a station and a broadcast flag, the consecutive-outbound count as given. -/
def decidingOn (s : State) (bcast : Bool) (n : Nat) : State :=
  ((s.setRing 1 (ring1.ring 1)).setSlot 0 (some { readyMsg with snap := some { snap17 with bcast := bcast } })).setLink
    { s.link with outbound := n }

theorem witness_DecisionChooses :
    (∀ s ∈ [waitingCmd 4, waitingCmd 5, holdingMsg readyMsg, polling 17 1, linked],
      s.awake = true ∧ s.line.role = .anchor ∧ s.link.en = true ∧ s.link.state = .idle ∧ s.readyUnsound = false) ∧
    (∀ b ∈ [true, false], ∀ n ∈ [0, 3, 4], ∀ s ∈ [decidingOn linked b n, decidingOn (polling 17 1) b n,
        decidingOn (polling 0 1) b n],
      s.awake = true ∧ s.line.role = .anchor ∧ s.link.en = true ∧ s.link.state = .idle ∧ s.readyUnsound = false ∧
        s.pickSlot s.eligible = some 0 ∧ s.cmd.queue = [] ∧ (s.station 17).sound = true ∧ s.link.outbound = n ∧
        s.line.burstEff = 4) ∧
    ((decidingOn (polling 0 1) false 4).pollScan.2 = none ∧
      (decidingOn (polling 0 1) false 4).pollScan.1.halted = false) ∧
    (polling 17 1).pickSlot (polling 17 1).eligible = none ∧ (polling 17 1).link.pollen = true ∧
    (polling 17 1).poll.len ≠ 0 ∧ (polling 17 1).link.pause = none ∧ (polling 17 1).poll.current = 17 ∧
    ((polling 17 1).station 17).presence ≠ .silent ∧ linked.pickSlot linked.eligible = none ∧
    linked.link.pollen = false := by decide +kernel

theorem witness_ScanWithoutResult :
    (polling 0 1).canScan = true ∧ (polling 0 1).poll.ptr.toNat < (polling 0 1).poll.len.toNat ∧
      (polling 0 1).poll.len.toNat ≤ 32 ∧ (polling 0 1).pollScan.2 = none ∧
      (polling 0 1).pollScan.1.halted = false := by decide +kernel

theorem witness_StagingBegins :
    let s := ring1.setRing 1 { ring1.ring 1 with prod := 1 }
    s.held = false ∧ s.glb.power = .run ∧ s.stagingSlot = none ∧ s.slot 0 = none ∧ s.stageable 1 = true ∧
      s.stageable 0 = false := by decide +kernel

/-- A message being staged, in a phase. -/
def stagedMsg (p : SlotPhase) : Message := { readyMsg with phase := p, payload := [], snap := none }

/-- The map holds channels 0 to 63 and no entry is cached. -/
def staged (p : SlotPhase) : State :=
  (holdingMsg (stagedMsg p)).setMap { base := 0x4000, len := 64 }

theorem witness_FetchCompletes :
    (staged .fetch).due.awake = true ∧ DmaKind.fetch ∈ (staged .fetch).due.inFlight ∧
      (staged .fetch).due.slot 0 = some (stagedMsg .fetch) ∧ (stagedMsg .fetch).sound = true ∧
      (staged .fetch).due.slot 1 = none ∧ (staged .fetch).due.flt = {} ∧
      txFormatError 0x00080000 0 = true ∧ txFormatError 0x00002040 0 = false ∧
      (staged .fetch).due.map.len.toNat ≤ ((0x00002040 : Word).extractLsb' 0 12).toNat ∧
      txFormatError 0x0000203F 0 = false ∧
      ((0x0000203F : Word).extractLsb' 0 12).toNat < (staged .fetch).due.map.len.toNat ∧
      (staged .fetch).due.map.find ((0x0000203F : Word).extractLsb' 0 12) = none := by decide +kernel

/-- An entry of V alone. -/
def bareEntry : MapEntry :=
  { p := false, station := 0, port := 0, retry := 0, maxLen := 0, fullLimit := 0, byte7 := 0 }

/-- An entry that station 17 may use, its MaxLen and byte 7 as given. -/
def usable (maxLen byte7 : Byte) : MapEntry := { bareEntry with p := true, station := 17, maxLen := maxLen, byte7 := byte7 }

/-- The entry of channel 9 in the cache, its fields and its parity as given. -/
def entry9 (e : MapEntry) (sound : Bool) : CacheEntry := { chan := 9, addr := 0x4048, e := e, sound := sound }

/-- The cache holds channels 3 and 9, 9 the less recent; GCTL.ICHK as given. -/
def cachedIn (s : State) (ichk : Bool) (e : CacheEntry) : State :=
  (s.setMap { s.map with cache := [{ entry9 bareEntry true with chan := 3 }, e] }).setGlb { s.glb with ichk := ichk }

/-- The fields a hit may find: no station, no permission, too short, unmarked, marked. -/
def hitFields : List MapEntry :=
  [bareEntry, { bareEntry with station := 17 }, usable 1 0, usable 2 0, usable 2 1]

/-- A hit moves the entry to the head of the recency list (R81). -/
theorem test_hit_moves_to_head :
    ((after (.fetchComplete .live (.data 0x00002009 0 0 0))
      (cachedIn (staged .fetch) true (entry9 snap17.e true))).map.cache.map (·.chan)) = [9, 3] := by decide +kernel

theorem witness_FetchCompletes_cached :
    (∀ e ∈ hitFields, ∀ b ∈ [true, false], ∀ i ∈ [true, false],
      ∀ s ∈ [cachedIn (staged .fetch) i (entry9 e b)],
        s.due.awake = true ∧ DmaKind.fetch ∈ s.due.inFlight ∧ s.due.StagedIn 0 (stagedMsg .fetch) .fetch ∧
          s.due.flt = {} ∧ txFormatError 0x00002009 0 = false ∧ (0x00002009 : Word).extractLsb' 0 12 = 9 ∧
          (9 : Channel).toNat < s.due.map.len.toNat ∧ s.due.map.find 9 = some (entry9 e b) ∧ s.due.glb.ichk = i ∧
          s.due.line.role = .anchor) ∧
    (0x00002009 : Word).extractLsb' 12 7 = 2 ∧
    hitFields.map (fun e => (e.station != 0, e.p, (maxLenEff e.maxLen).toNat, e.byte7.getLsbD 0)) =
      [(false, false, 0, false), (true, false, 0, false), (true, true, 1, false), (true, true, 2, false),
        (true, true, 2, true)] := by
  unfold State.StagedIn
  decide +kernel

/-- The same with an INTEG fault outstanding already. -/
theorem witness_FetchCompletes_double :
    ∀ s ∈ [(cachedIn (staged .fetch) true (entry9 bareEntry false)).setFlt { record := some (presented .integ .cacheParity .na) }],
      s.due.awake = true ∧ DmaKind.fetch ∈ s.due.inFlight ∧ s.due.StagedIn 0 (stagedMsg .fetch) .fetch ∧
        s.due.map.find 9 = some (entry9 bareEntry false) ∧ s.due.glb.ichk = true ∧ s.due.flt.outstanding .integ = true := by
  unfold State.StagedIn
  decide +kernel

/-- A walk in flight for channel 9. -/
def walking (p : Bool) : State :=
  (staged .translate).setMap { (staged .translate).map with walk := some { chan := 9, addr := 0x4048, permission := p } }

/-- V, P, station 17, port 3, retry limit 2, MaxLen 2. -/
def entryWord : BitVec 64 := 0x0000000002231103

theorem witness_WalkCompletes :
    (∀ p ∈ [true, false],
      (walking p).due.awake = true ∧ DmaKind.walk ∈ (walking p).due.inFlight ∧
        (walking p).due.slot 0 = some (stagedMsg .translate) ∧ (stagedMsg .translate).sound = true ∧
        (walking p).due.slot 1 = none ∧
        (walking p).due.map.walk = some { chan := 9, addr := 0x4048, permission := p } ∧ (walking p).due.flt = {} ∧
        (walking p).due.line.role = .anchor) ∧
    entryWord.getLsbD 0 = true ∧ entryWord.getLsbD 1 = true ∧ entryWord.extractLsb' 8 7 ≠ 0 ∧
    (stagedMsg .translate).length.toNat ≤ (maxLenEff (entryWord.extractLsb' 24 8)).toNat ∧
    entryWord.getLsbD 56 = false ∧ (0 : BitVec 64).getLsbD 0 = false := by decide +kernel

/-- The same in member role, with slots 1 and 2 Enabled for the address given. -/
def asMember (a : LineAddr) (s : State) : State :=
  ((s.setLine { s.line with role := .member }).setLsn 1 { address := a, enabled := true }).setLsn 2
    { address := a, enabled := true }

/-- In member role the Station step binds the lowest-numbered slot that holds the Station, and fails where none does (R75,
R85); the entry is installed all the same (R82). -/
theorem test_member_station_step :
    let t (a : LineAddr) := after (.walkComplete .live (.data entryWord)) (asMember a (walking true))
    ((t 17).slot 0).map (fun m => (m.phase, m.work.map (·.persona))) = some (.mark, some 1) ∧
      ((t 18).flt.record.map (·.kind), (t 18).slot 0) = (some .mapStation, none) ∧
      [(t 17).map.cache.length, (t 18).map.cache.length] = [1, 1] := by decide +kernel

theorem witness_WalkCompletes_member :
    (entryWord.extractLsb' 8 7 = 17 ∧ snap17.e.station = 17) ∧
    (∀ s ∈ [asMember 17 (walking true), asMember 17 (cachedIn (staged .fetch) true (entry9 snap17.e true))],
      s.due.awake = true ∧ s.due.line.role = .member ∧ s.due.Owns 1 17 ∧ s.due.flt = {}) ∧
    (∀ s ∈ [asMember 18 (walking true), asMember 0 (walking false),
        asMember 18 (cachedIn (staged .fetch) true (entry9 snap17.e true))],
      s.due.awake = true ∧ s.due.line.role = .member ∧ (∀ p : Fin 4, ¬s.due.Owns p 17) ∧ s.due.flt = {}) ∧
    ((asMember 18 (walking true)).due.map.walk = (walking true).due.map.walk ∧
      (asMember 18 (cachedIn (staged .fetch) true (entry9 snap17.e true))).due.map.find 9 =
        some (entry9 snap17.e true)) := by
  unfold State.Owns
  decide +kernel

/-- The message in MARK with its working copy. -/
def markMsg : Message :=
  { stagedMsg .mark with work := some { e := entryFields entryWord, addr := 0x4048, persona := 0, cached := true } }

theorem witness_MarkAndLoadComplete :
    let a := holdingMsg markMsg
    let l := holdingMsg (stagedMsg .load)
    (a.due.awake = true ∧ a.due.flt = {} ∧ DmaKind.mark ∈ a.due.inFlight ∧ a.due.slot 0 = some markMsg ∧
      markMsg.sound = true ∧ a.due.slot 1 = none ∧ markMsg.work.isSome = true ∧ markMsg.length ≠ 0) ∧
    (l.due.awake = true ∧ l.due.flt = {} ∧ DmaKind.payload ∈ l.due.inFlight ∧
      l.due.slot 0 = some (stagedMsg .load) ∧ l.due.slot 1 = none ∧
      (stagedMsg .load).payload.length + [0xAA, 0x55].length = (stagedMsg .load).length.toNat) := by decide +kernel

/-- The message waiting for its Err write. -/
def errMsg : Message := { readyMsg with code := .noReply, phase := .finishing .errWrite, txn := 0x404F }

theorem witness_ErrWriteCompletes :
    let s := holdingMsg errMsg
    s.due.awake = true ∧ DmaKind.errWrite ∈ s.due.inFlight ∧ s.due.slot 0 = some errMsg ∧ errMsg.sound = true ∧
      errMsg.snap = some snap17 ∧ s.due.map.find snap17.chan = none ∧ s.due.flt = {} := by decide +kernel

theorem witness_ErrWriteCompletes_cached :
    (∀ b ∈ [true, false], ∀ i ∈ [true, false], ∀ s ∈ [cachedIn (holdingMsg errMsg) i (entry9 snap17.e b)],
      s.due.awake = true ∧ DmaKind.errWrite ∈ s.due.inFlight ∧ s.due.slot 0 = some errMsg ∧
        s.due.map.find snap17.chan = some (entry9 snap17.e b) ∧ s.due.flt = {} ∧ s.due.glb.ichk = i) ∧
    (∀ s ∈ [(cachedIn (holdingMsg errMsg) true (entry9 bareEntry false)).setFlt
        { record := some (presented .integ .cacheParity .na) }],
      s.due.awake = true ∧ DmaKind.errWrite ∈ s.due.inFlight ∧ s.due.slot 0 = some errMsg ∧
        s.due.map.find snap17.chan = some (entry9 bareEntry false) ∧ s.due.flt.outstanding .integ = true) := by decide +kernel

/-- The steps of a drain of a two-byte frame. -/
def drainSteps : List DrainStep := [.desc, .payload 0x3000 1 0, .word2 0, .word3 0]

/-- Payload byte i goes to Buffer + i, and none past the delivered length (R125). -/
theorem test_payload_bytes :
    (draining (.payload 0x3000 8 0)).payloadWrite 2 = [(0x3000, 1), (0x3001, 2)] ∧
      (draining (.payload 0x3000 8 1)).payloadWrite 5 = [(0x3001, 2)] ∧
      (draining (.payload 0x3000 1 0)).payloadWrite 5 = [(0x3000, 1)] := by decide +kernel

theorem witness_DrainSteps :
    (rxReady.awake = true ∧ rxReady.rxp.canDrain = true ∧ rxReady.rxp.buffers = [frame2] ∧ frame2.sound = true) ∧
    (∀ st ∈ drainSteps, ∀ s ∈ [draining st],
      s.due.awake = true ∧ s.due.rxp.drain = some { addr := 0x2000, step := st } ∧ s.due.rxp.buffers = [frame2] ∧
        ({ addr := 0x2000, step := st } : Drain).dma ⊆ s.due.inFlight) ∧
    0 + 1 ≤ min frame2.payload.length (1 : Byte).toNat ∧ frame2.payload[0 + 0]? = some 1 := by decide +kernel

theorem witness_ReceiveFaults :
    ∀ st ∈ drainSteps, ∀ s ∈ [draining st, unsoundHead (draining st)],
      s.due.awake = true ∧ s.due.rxp.drain = some { addr := 0x2000, step := st } ∧ s.due.rxp.buffers.length = 1 ∧
        ({ addr := 0x2000, step := st } : Drain).dma ⊆ s.due.inFlight ∧ s.due.flt = {} := by
  decide +kernel

/-- The entry of the finished message. -/
def msgEntry : Entry := readyMsg.entry 0

/-- A SKIPPED entry of ring 1. -/
def skipEntry : Entry := skippedEntry 1 (presented (.tx 1) .range .translate)

/-- The COMMAND_DONE of a NOP. -/
def doneEntry : Entry := { kind := .commandDone, waiter := .command }

/-- An entry at the head of the holding list, the queue full or not. -/
def meets (e : Entry) (full blocking : Bool) : State :=
  State.reset.setCq { State.reset.cq with holding := [e], head := if full then 1 else 0, blocking := blocking }

theorem witness_RecordWrites :
    (let s := State.reset.setCq { State.reset.cq with holding := [noticeEntry] };
      s.awake = true ∧ noticeEntry.silent = false ∧ s.cq.full = false ∧ s.cq.inFlight = none ∧
        s.flt.outstanding .cq = false ∧ s.bus.afterReset = []) ∧
    (∀ e ∈ [noticeEntry, msgEntry, skipEntry, doneEntry],
      ∀ s ∈ [writing e (holdingMsg { readyMsg with phase := .finishing .held })],
        s.due.awake = true ∧ DmaKind.record ∈ s.due.inFlight ∧ s.due.cq.holding = [e] ∧
          (s.due.ring e.ring).state = (if e.ring = 1 then .running else .stopped) ∧ s.due.flt = {}) ∧
    (noticeEntry.waiter = .notice ∧ msgEntry.waiter = .slot 0 ∧ skipEntry.waiter = .skipped true ∧
      doneEntry.waiter = .command) ∧
    (∀ n ∈ [(1 : Byte), 2], ∀ s ∈ [(writing noticeEntry State.reset)],
      (s.setCq { s.cq with count := n }).due.cq.countEff = n.toNat ∧ s.due.cq.unsignalled = 0) ∧
    (∀ b ∈ [true, false],
      (meets noticeEntry b false).awake = true ∧ (meets noticeEntry b false).cmd.queue = [] ∧
        (meets noticeEntry b false).cq.full = b ∧ (meets noticeEntry b false).cq.inFlight = none ∧
        (meets noticeEntry b false).flt.outstanding .cq = false ∧ (meets noticeEntry b true).cq.blocking = true) := by
  decide +kernel

/-- The entry of a QUIET message with code OK. -/
def quietEntry : Entry := { msgEntry with quiet := true }

/-- A QUIET message's OK entry leaves without a record, the queue full: TXCONS1 goes on and the slot is free (R110). -/
theorem test_quiet_ok_leaves :
    let s := ring1.setSlot 0 (some { readyMsg with quiet := true, phase := .finishing .held })
    let t := (s.setCq { s.cq with holding := [quietEntry], head := 1 }).settle
    t.cq.holding = [] ∧ t.slot 0 = none ∧ (t.ring 1).cons = 1 ∧ t.cq.tail = s.cq.tail ∧ t.cq.unsignalled = 0 := by
  decide +kernel

theorem witness_RecordWrites_quiet :
    quietEntry.kind = .message ∧ quietEntry.quiet = true ∧ quietEntry.code = .ok ∧ quietEntry.waiter = .slot 0 ∧
    (∀ rest ∈ [[], [noticeEntry]], ∀ h ∈ [(0 : BitVec 10), 1],
      ∀ s ∈ [(holdingMsg { readyMsg with quiet := true, phase := .finishing .held }).setCq
        { linked.cq with holding := quietEntry :: rest, head := h }],
      s.halted = false ∧ s.cmd.queue = [] ∧ s.cq.holding = quietEntry :: rest ∧ (s.ring quietEntry.ring).state = .running ∧
        (rest.head?).any (·.silent) = false ∧ s.cq.full = (h == 1)) := by decide +kernel

theorem witness_CommandWritesQueueUp :
    State.reset.due.live = true ∧
      (∀ n ∈ [7, 8], ∀ s ∈ [linked.setCmd { queue := List.replicate n { op := 4, notify := false, tag := 0, arg := 0 } }],
        s.cmd.queue.length = n) := by decide +kernel

theorem witness_InvalidateAllActs :
    let s := staged .ready
    s.due.awake = true ∧ (s.due.cq.holding = [] ∧ s.due.cmd.queue = []) ∧ s.due.cmd.head = .fresh := by decide +kernel

/-- INVALIDATE CHANNEL 9 and 4096 with NOTIFY: each stays at the head until its COMMAND_DONE, OK or REJECTED, leaves the list,
and only the first empties the cache of its channel (R93, R147, R148). -/
theorem test_invalidate_notify :
    let t (a : BitVec 16) := after (.invalidateChannel true 0x33 a) (cachedIn linked true (entry9 bareEntry true))
    let seen (u : State) := (u.map.cache.map (·.chan), u.cmd.head, u.cq.holding.map fun e => (e.code, e.index))
    seen (t 9) = ([3], .reporting, [(.ok, 0x33)]) ∧
      seen (t 4096) = ([3, 9], .reporting, [(.rejected, 0x33)]) ∧ (t 4096).cmd.errCode = .arg := by decide +kernel

theorem witness_ImmediateCommandsComplete :
    (State.reset.due.awake = true ∧ (State.reset.due.cq.holding = [] ∧ State.reset.due.cmd.queue = []) ∧
      State.reset.due.cmd.head = .fresh) ∧ (4095 : BitVec 16).toNat < 4096 ∧ 4096 ≤ (4096 : BitVec 16).toNat := by
  decide +kernel

/-- The message of ring 1, Running, in use by the anchor, or of a member, which takes no decision. -/
def stopTarget (m : Message) (inUse : Bool) : State :=
  if inUse then inState (holdingMsg m) .awaiting outbound17
  else (memberIdle.setSlot 0 (some m)).setRing 1 (ring1.ring 1)

theorem witness_RingCommandsAct :
    (∀ st ∈ [RingState.stopped, .running, .stopping, .faulted],
      ∀ s ∈ [State.reset.setRing 3 { State.reset.ring 3 with state := st }],
        s.due.awake = true ∧ s.due.NothingWaits ∧ s.due.cmd.head = .fresh ∧
          s.due.ringSlot 3 = none ∧ (s.due.ring 3).state = st) := by
  unfold State.NothingWaits
  decide +kernel

theorem witness_RingCommandsAct_message :
    (∀ m ∈ [stagedMsg .load, readyMsg, attemptMsg 1, { attemptMsg 1 with sound := false },
        { readyMsg with phase := .finishing .errWrite }],
      ∀ b ∈ [true, false], ∀ s ∈ [stopTarget m b],
        s.due.awake = true ∧ s.due.NothingWaits ∧ s.due.cmd.head = .fresh ∧ s.due.ringSlot 1 = some 0 ∧
          s.due.slot 0 = some m ∧ m.ring = 1 ∧ (s.due.ring 1).state = .running ∧
          decide (s.due.link.x.slot = some 0) = b) ∧
    (stagedMsg .load).phase.staging = true ∧ readyMsg.attempted = false ∧ (attemptMsg 1).attempted = true := by
  unfold State.NothingWaits
  decide +kernel

theorem witness_OtherCommandsAct :
    (∀ s ∈ [linked, awaiting17, memberIdle],
      s.due.awake = true ∧ (s.due.cq.holding = [] ∧ s.due.cmd.queue = []) ∧ s.due.cmd.head = .fresh) ∧
    (linked.due.line.role = .anchor ∧ linked.due.exchangeWith ((126 : BitVec 16).extractLsb' 0 7) = false ∧
      (linked.due.station ((126 : BitVec 16).extractLsb' 0 7)).sound = true) ∧
    (linked.due.slot 0 = none ∧ linked.due.slot 1 = none) ∧ awaiting17.due.anySlot = true ∧
    memberIdle.due.line.role = .member ∧ 9 ≤ (9 : BitVec 4).toNat := by decide +kernel

theorem witness_StagingFaultReleased :
    let f := presented (.tx 1) .range .translate
    let s := (ring1.setRingState 1 .faulted).setFlt { record := some f }
    s.due.live = true ∧ s.due.flt = { record := some f } ∧ f.source = .tx 1 ∧ f.phase ≠ .finish := by decide +kernel

theorem witness_StagingFaultReleased_waits :
    linked.flt = {} ∧ ∀ s ∈ [(staged .fetch).setFlt { record := some (presented .rx .descFormat .na) }],
      s.due.awake = true ∧ DmaKind.fetch ∈ s.due.inFlight ∧ s.due.StagedIn 0 (stagedMsg .fetch) .fetch ∧
        s.due.flt.record = some (presented .rx .descFormat .na) := by
  unfold State.StagedIn
  decide +kernel

/-- The fault given is presented, and behind it wait a DESC_FORMAT of RX, and a PAYLOAD_BUS of each of rings 1 and 3. -/
def faultsWait (s : State) (f : FaultRecord) : State :=
  s.setFlt { record := some f, waiting := #v[none, none, some (presented .rx .descFormat .na), none,
    some (presented (.tx 1) .payloadBus .load), none, some (presented (.tx 3) .payloadBus .load)] }

/-- Of three pending faults a release presents that of the highest class and then of the earliest source (R153). -/
theorem test_release_presents_next :
    let s := faultsWait linked (presented (.tx 2) .range .translate)
    let t := after .resume s
    (s.readAt .word 0x230, t.readAt .word 0x230) = (0x54, 0x44) ∧
      t.flt.record = some (presented (.tx 1) .payloadBus .load) ∧ t.glb.intstat = IrqCause.fault.mask := by decide +kernel

theorem witness_OtherFaultsReleased_next :
    (∀ f ∈ [presented .integ .cacheParity .na, presented .cq .cqBus .na, presented (.tx 2) .range .translate,
        presented (.tx 2) .markBus .finish],
      ∀ s ∈ [faultsWait (holdingMsg { readyMsg with ring := 2, phase := .finishing .faulted }) f],
        s.due.live = true ∧ s.due.flt.record = some f ∧
          s.due.flt.waiting[(4 : Fin 7)] = some (presented (.tx 1) .payloadBus .load) ∧
          (∀ j : Fin 7, j ≠ 4 → (s.due.flt.waiting[j]).all (fun h =>
            decide (FaultKind.payloadBus.rank < h.kind.rank ∨ (FaultKind.payloadBus.rank = h.kind.rank ∧ 4 < j))) = true) ∧
          s.due.faultedSlot 2 = some 0 ∧ (s.due.slot 0).any (·.sound) = true) := by decide +kernel

/-- A presented FINISH fault of ring 1. -/
def finishFaulted : State :=
  ((holdingMsg { readyMsg with phase := .finishing .faulted }).setRing 1
    { state := .faulted, before := .running }).setFlt { record := some (presented (.tx 1) .markBus .finish) }

theorem witness_OtherFaultsReleased :
    (∀ src ∈ [Source.rx, .cq, .integ], ∀ s ∈ [State.reset.setFlt { record := some (presented src .cqBus .na) }],
      s.due.live = true ∧ s.due.flt = { record := some (presented src .cqBus .na) }) ∧
    (∀ e ∈ [noticeEntry, msgEntry, skipEntry, doneEntry],
      ∀ s ∈ [(State.reset.setFlt { record := some (presented .cq .cqBus .na) }).setCq
        { State.reset.cq with holding := [e] }],
      s.due.live = true ∧ s.due.flt = { record := some (presented .cq .cqBus .na) } ∧ s.due.cq.holding = [e] ∧
        (s.due.ring e.ring).state ≠ .stopping) ∧
    (finishFaulted.due.live = true ∧
      finishFaulted.due.flt = { record := some (presented (.tx 1) .markBus .finish) } ∧
      finishFaulted.due.faultedSlot 1 = some 0 ∧
      finishFaulted.due.slot 0 = some { readyMsg with phase := .finishing .faulted } ∧ readyMsg.sound = true) ∧
    State.reset.due.flt.record = none := by decide +kernel

theorem witness_DoorbellsRung : State.reset.due.live = true ∧ dozing.due.live = true := by decide +kernel

theorem witness_SizeWrites :
    State.reset.due.live = true ∧ ring1.due.live = true ∧ (ring1.due.ring 1).state ≠ .stopped ∧
      (ring1.due.ring 0).state = .stopped ∧ rxReady.due.rxLocked = true ∧ State.reset.due.rxLocked = false ∧
      ring1.due.cqLocked = true ∧ State.reset.due.cqLocked = false := by decide +kernel

theorem witness_LinkControlWrites :
    (State.reset.due.awake = true ∧ State.reset.due.link.state = .disabled ∧ State.reset.due.link.pollen = false) ∧
    (linked.due.awake = true ∧ linked.due.link.state = .idle ∧ linked.due.link.en = true ∧
      linked.due.tx.phase = .off) ∧
    ((polling 0 0).due.awake = true ∧ (polling 0 0).due.link.pollen = true) := by decide +kernel

/-- EN still 1 in a state with an exchange, which then is written 0: the link in Guard, Sending, Breaking and Awaiting. -/
theorem witness_LinkControlWrites_off :
    (∀ x ∈ [{ kind := .poll, station := 17 }, { outbound17 with met := false }],
      ∀ s ∈ [guarded (holdingMsg readyMsg) x],
        s.due.awake = true ∧ s.due.link.en = true ∧ s.due.link.state = .guard ∧ s.due.tx.phase = .off ∧
          s.due.link.x = x ∧ s.due.slot 0 = some readyMsg ∧ (s.due.ring readyMsg.ring).state ≠ .stopping) ∧
    ((sendingTx (inState linked .sending { kind := .poll })).due.awake = true ∧
      (sendingTx (inState linked .sending { kind := .poll })).due.link.state = .sending) ∧
    ((inState linked .breaking { kind := .brk }).due.awake = true ∧
      (inState linked .breaking { kind := .brk }).due.link.state = .breaking) ∧
    (∀ n ∈ [0, 1], ∀ x ∈ [{ kind := .poll, station := 126 }, outbound17],
      ∀ s ∈ [inState (holdingMsg (attemptMsg n)) .awaiting x],
        s.due.awake = true ∧ s.due.link.en = true ∧ s.due.link.state = .awaiting ∧ s.due.line.role = .anchor ∧
          s.due.exchangeUnsound = none ∧ s.due.link.x = x ∧ s.due.slot 0 = some (attemptMsg n) ∧
          s.due.ReadyIn (attemptMsg n) snap17) := by
  unfold State.ReadyIn
  decide +kernel

/-- EN written 0 meanwhile, a frame or a break still being sent. -/
def switchedOff (s : State) : State := s.setLink { s.link with en := false, offPending := true }

theorem witness_LinkControlWrites_ends :
    (∀ x ∈ [{ kind := .poll, station := 17, tail := true }, outbound17],
      ∀ s ∈ [switchedOff (sendingTx (inState (holdingMsg readyMsg) .sending x))],
        s.due.awake = true ∧ s.due.link.en = false ∧ s.due.tx.phase = .frame ∧ s.due.tx.afterBreak = false ∧
          s.due.tx.contention = false ∧ s.due.link.state = .sending ∧ s.due.link.x = x ∧ s.due.line.role = .anchor ∧
          s.due.exchangeUnsound = none ∧ s.due.slot 0 = some readyMsg ∧ s.due.ReadyIn readyMsg snap17) ∧
    ({ kind := .poll, station := 17, tail := true } : Exchange).isAttempt = false ∧
    readyMsg.attempts ≠ snap17.e.retry.toNat ∧ outbound17.beganSilent = false ∧
    (∀ s ∈ [switchedOff ((inState (breakSyncing linked) .breaking { kind := .brk }).setTx { phase := .brk, bits := 24 })],
      s.due.awake = true ∧ s.due.link.en = false ∧ s.due.tx.phase = .brk ∧ s.due.link.state = .breaking ∧
        s.due.line.brkSync = true ∧ s.due.line.role = .anchor ∧ s.due.stationsUnsound = false) := by
  unfold State.ReadyIn
  decide +kernel

theorem witness_PlainRegisterWrites :
    State.reset.due.live = true ∧ State.reset.due.stn.sel = 0 ∧ State.reset.due.link.en = false ∧
      (State.reset.due.lsn 3).enabled ≠ (0x100 : Word).getLsbD 8 ∧
      ((State.reset.due.lsn 3).address = (0 : Word).extractLsb' 0 7 ∧
        (State.reset.due.lsn 3).enabled = (0 : Word).getLsbD 8) ∧ linked.due.live = true ∧ linked.due.link.en = true ∧
      (∀ s ∈ [State.reset.setStn { State.reset.stn with sel := 126 }],
        s.due.live = true ∧ s.due.stn.sel ≠ 0 ∧ s.due.stn.sel ≠ 127) ∧
      (∀ s ∈ [State.reset.setCq { State.reset.cq with unsignalled := 1 }],
        s.due.live = true ∧ s.due.cq.unsignalled ≠ 0 ∧ (0x100 : Word).extractLsb' 8 8 ≠ 0#8) := by decide +kernel

theorem witness_InterruptAndCounterWrites :
    linked.due.held = false ∧ linked.due.halted = false ∧ (inPower linked .halt).due.held = false ∧
      (inPower linked .halt).due.halted = true := by decide +kernel

theorem witness_ProtectedReads :
    let u := (linked.setStn { linked.stn with sel := 17 }).setStation 17 { sound := false }
    let l := linked.setLsn 2 { sound := false }
    let h := heldState.setLsn 2 { sound := false }
    (linked.due.station linked.due.stn.sel).sound = true ∧
      ((u.due.station u.due.stn.sel).sound = false ∧ u.due.halted = false ∧ u.due.held = false) ∧
      (linked.due.lsn 2).sound = true ∧
      ((l.due.lsn 2).sound = false ∧ l.due.halted = false ∧ l.due.held = false) ∧
      ((h.due.lsn 2).sound = false ∧ h.due.held = true) := by decide +kernel

/-- An anchor whose link is disabled, with a line command that waits. -/
def waitingOff : State :=
  State.reset.setCmd { queue := [{ op := 5, notify := false, tag := 1, arg := 0 }], head := .waiting }

theorem witness_OtherRegisterWrites :
    (linked.due.live = true ∧ linked.due.link.en = true ∧ State.reset.due.live = true ∧
      State.reset.due.link.en = false ∧ regAt 0xFFC = none) ∧
    (let s := State.reset.setSlot 0 (some readyMsg);
      s.due.live = true ∧ s.due.link.en = false ∧ s.due.anySlot = true ∧ s.due.line.role = .anchor) ∧
    (State.reset.due.anySlot = false ∧ State.reset.due.cmd.queue = []) ∧
    (waitingOff.due.live = true ∧ waitingOff.due.link.en = false ∧ waitingOff.due.line.role = .anchor ∧
      waitingOff.due.anySlot = false ∧ waitingOff.due.link.state = .disabled ∧
      waitingOff.due.cmd.queue = [{ op := 5, notify := false, tag := 1, arg := 0 }] ∧
      waitingOff.due.cmd.head = .waiting) ∧
    ((polling 17 1).due.live = true ∧ (polling 17 1).due.link.pollen = true ∧
      State.reset.due.link.pollen = false) ∧
    (ring1.due.live = true ∧ (ring1.due.ring 1).state ≠ .stopped ∧ (ring1.due.ring 0).state = .stopped ∧
      ring1.due.cqLocked = true ∧ State.reset.due.cqLocked = false ∧ rxReady.due.live = true ∧
      rxReady.due.rxLocked = true ∧ State.reset.due.rxLocked = false) := by decide +kernel

/-- The invariants' hypotheses hold after reset, and a step goes on from there. -/
theorem witness_BuffersFitKept :
    (State.reset.cmd.queue.length ≤ Config.commandDepth ∧ State.reset.rxp.buffers.length ≤ Config.rxBuffers ∧
      State.reset.map.cache.length ≤ Config.cacheEntries) ∧ step State.reset = .next State.reset.tick := by
  exact ⟨by decide +kernel, rfl⟩

theorem witness_RegistersLegalKept : State.reset.ConfigLegal ∧ State.reset.IndicesFit := by
  refine ⟨?_, ?_⟩
  · unfold State.ConfigLegal
    decide +kernel
  · unfold State.IndicesFit
    decide +kernel

theorem witness_ReservedRecordsKept :
    (State.reset.station 0 = reservedRecord ∧ State.reset.station 127 = reservedRecord) ∧
    (Instr.frameSent.internal = true ∧ memberPoll.line.role = .member ∧ memberPoll.cmd.queue = []) := by decide +kernel

end Sys2Proof.Tests
end

section
/-! PROOFS. A broadcast DATA at a member (R40). The end of a member's attempt and every operation it goes through leave the
receive path, the line error counters, the sequence state of the listen slots and, short of a Halt, the transmitter alone; the
frame itself is then staged or counted. -/

namespace Sys2Proof.Machine

/-! ## What the end of a member's attempt leaves alone -/

/-- `t` comes from `s` by work that receives and sends nothing. A Halt entry releases the line, so the transmitter is kept only
where `t` is not Halted; that Halt is never left makes the relation transitive. -/
structure State.KeepsTraffic (s t : State) : Prop where
  counters : t.counters = s.counters
  rxp : t.rxp = s.rxp
  seqs : ∀ k : Fin 4, (t.lsn k).inSeq = (s.lsn k).inSeq ∧ (t.lsn k).outSeq = (s.lsn k).outSeq
  halted : s.halted = true → t.halted = true
  tx : t.halted = false → t.tx = s.tx

theorem State.KeepsTraffic.of_eq {s t : State} (hc : t.counters = s.counters) (hr : t.rxp = s.rxp)
    (hl : t.listen = s.listen) (hp : t.glb.power = s.glb.power) (ht : t.tx = s.tx) : s.KeepsTraffic t where
  counters := hc
  rxp := hr
  seqs k := by simp [State.lsn, hl]
  halted h := by rwa [State.halted_iff, hp, ← State.halted_iff]
  tx _ := ht

theorem State.KeepsTraffic.refl (s : State) : s.KeepsTraffic s := .of_eq rfl rfl rfl rfl rfl

theorem State.KeepsTraffic.trans {s t u : State} (h : s.KeepsTraffic t) (h' : t.KeepsTraffic u) : s.KeepsTraffic u where
  counters := h'.counters.trans h.counters
  rxp := h'.rxp.trans h.rxp
  seqs k := ⟨(h'.seqs k).1.trans (h.seqs k).1, (h'.seqs k).2.trans (h.seqs k).2⟩
  halted hs := h'.halted (h.halted hs)
  tx hu := by
    have ht : t.halted = false := Bool.eq_false_iff.mpr fun hb => by simp [h'.halted hb] at hu
    exact (h'.tx hu).trans (h.tx ht)

theorem State.keepsTraffic_enterHalt (s : State) (c : HaltCause) : s.KeepsTraffic (s.enterHalt c) := by
  have hh := s.halted_enterHalt c
  unfold State.enterHalt at hh ⊢
  split
  · exact .refl s
  next hs =>
    rw [if_neg hs] at hh
    refine ⟨rfl, rfl, fun _ => ⟨rfl, rfl⟩, fun _ => hh, fun h => ?_⟩
    rw [hh] at h
    cases h

theorem State.keepsTraffic_checked {s : State} (bad : Option HaltCause) {f : State → State}
    (h : s.KeepsTraffic (f s)) : s.KeepsTraffic (s.checked bad f) := by
  cases bad with
  | none => exact h
  | some c => exact s.keepsTraffic_enterHalt c

theorem State.KeepsTraffic.unlessHalted {s t : State} {f : State → State} (h : s.KeepsTraffic t)
    (hf : t.KeepsTraffic (f t)) : s.KeepsTraffic (t.unlessHalted f) := by
  cases hb : t.halted with
  | true => rwa [State.unlessHalted_of_halted f hb]
  | false => rw [State.unlessHalted_of_not f hb]; exact h.trans hf

/-- Work that ends with the controller running was not cut short by a Halt. -/
theorem State.unlessHalted_of_running {s : State} {f : State → State} (h : (s.unlessHalted f).halted = false) :
    s.halted = false ∧ s.unlessHalted f = f s := by
  cases hb : s.halted with
  | true =>
    rw [State.unlessHalted_of_halted f hb, hb] at h
    cases h
  | false => exact ⟨rfl, State.unlessHalted_of_not f hb⟩

/-! ## The finishing of a message -/

theorem State.keepsTraffic_post (s : State) (r : FaultRecord) : s.KeepsTraffic (s.post r) := by
  unfold State.post
  rcases State.present_cases (s.setFlt { s.flt with waiting := s.flt.waiting.set r.source.code (some r) }) with
    h | ⟨i, q, -, -, h⟩
  · rw [h]; exact .of_eq rfl rfl rfl rfl rfl
  · rw [h]; exact .of_eq rfl rfl rfl rfl rfl

theorem State.keepsTraffic_cacheParity (s : State) (p : FaultPhase) (i : Byte) (c : Channel) :
    s.KeepsTraffic (s.cacheParity p i c) := by
  unfold State.cacheParity
  split
  · exact s.keepsTraffic_enterHalt _
  split
  · exact s.keepsTraffic_enterHalt _
  · have hm : s.KeepsTraffic (s.setMap (s.map.remove c)) := .of_eq rfl rfl rfl rfl rfl
    exact hm.trans (State.keepsTraffic_post _ _)

theorem State.keepsTraffic_cacheErr (s : State) (i : Byte) (c : Channel) : s.KeepsTraffic (s.cacheErr i c) := by
  unfold State.cacheErr
  split
  · exact .refl s
  split
  · exact .of_eq rfl rfl rfl rfl rfl
  · exact s.keepsTraffic_cacheParity _ _ _

theorem State.keepsTraffic_joinMessage (s : State) (k : Fin 2) (m : Message) : s.KeepsTraffic (s.joinMessage k m) :=
  .of_eq rfl rfl rfl rfl rfl

theorem State.keepsTraffic_setSlot (s : State) (k : Fin 2) (m : Option Message) : s.KeepsTraffic (s.setSlot k m) :=
  .of_eq rfl rfl rfl rfl rfl

theorem State.keepsTraffic_giveOutcome (s : State) (k : Fin 2) (c : Code) : s.KeepsTraffic (s.giveOutcome k c) := by
  unfold State.giveOutcome
  split
  · exact .refl s
  dsimp only
  split
  · split
    · exact s.keepsTraffic_setSlot _ _
    · exact (s.keepsTraffic_cacheErr _ _).unlessHalted (State.keepsTraffic_joinMessage _ _ _)
  · exact s.keepsTraffic_joinMessage _ _

theorem State.keepsTraffic_settleStopping (s : State) (k : Fin 2) : s.KeepsTraffic (s.settleStopping k) := by
  unfold State.settleStopping
  split
  · exact .refl s
  split
  · exact s.keepsTraffic_giveOutcome _ _
  · exact .refl s

theorem State.keepsTraffic_failMessage (s : State) (k : Fin 2) (c : AttemptCause) (silent : Bool) :
    s.KeepsTraffic (s.failMessage k c silent) := by
  unfold State.failMessage
  split
  · exact .refl s
  dsimp only
  split
  · exact (s.keepsTraffic_setSlot k _).trans (State.keepsTraffic_giveOutcome _ _ _)
  · exact (s.keepsTraffic_setSlot k _).trans (State.keepsTraffic_settleStopping _ _)

/-- ResyncWanted is no part of a listen slot's sequence numbers (R58, R74). -/
theorem State.keepsTraffic_resyncWanted (s : State) (k : Fin 4) (v : Bool) :
    s.KeepsTraffic (s.setLsn k { s.lsn k with resyncWanted := v }) where
  counters := rfl
  rxp := rfl
  seqs j := by
    by_cases h : k = j
    · subst h; simp [State.lsn_setLsn_self]
    · simp [State.lsn_setLsn_other _ h]
  halted h := h
  tx _ := rfl

/-! ## The link returns to Idle -/

theorem State.keepsTraffic_setLink (s : State) (l : Link) : s.KeepsTraffic (s.setLink l) := .of_eq rfl rfl rfl rfl rfl

theorem State.keepsTraffic_restartAnchor (s : State) : s.KeepsTraffic s.restartAnchor := by
  unfold State.restartAnchor
  split
  · exact s.keepsTraffic_setLink _
  · exact .refl s

theorem State.keepsTraffic_syncRx (s : State) : s.KeepsTraffic s.syncRx := by
  unfold State.syncRx
  split
  · exact .refl s
  split
  · exact .of_eq rfl rfl rfl rfl rfl
  · exact .of_eq rfl rfl rfl rfl rfl

theorem State.keepsTraffic_enterDisabled (s : State) : s.KeepsTraffic s.enterDisabled := by
  unfold State.enterDisabled
  dsimp only
  split
  · exact .of_eq rfl rfl rfl rfl rfl
  · exact s.keepsTraffic_setLink _

theorem State.keepsTraffic_enableLink (s : State) : s.KeepsTraffic s.enableLink :=
  ((s.keepsTraffic_setLink _).trans (State.keepsTraffic_restartAnchor _)).trans (State.keepsTraffic_syncRx _)

theorem State.keepsTraffic_toIdle (s : State) : s.KeepsTraffic s.toIdle := by
  unfold State.toIdle
  split
  · exact s.keepsTraffic_setLink _
  dsimp only
  split
  · exact s.keepsTraffic_enterDisabled.trans (State.keepsTraffic_enableLink _)
  · exact s.keepsTraffic_enterDisabled

theorem State.syncRx_link (s : State) : s.syncRx.link = s.link := by
  unfold State.syncRx
  split
  · rfl
  split
  · rfl
  · rfl

theorem State.enterDisabled_link_state (s : State) : s.enterDisabled.link.state = .disabled := by
  unfold State.enterDisabled
  dsimp only
  split
  · rfl
  · rfl

/-- The restart of the anchor-lost timer touches neither the link state nor the exchange (R60). -/
theorem State.restartAnchor_link (s : State) :
    s.restartAnchor.link.state = s.link.state ∧ s.restartAnchor.link.x = s.link.x := by
  unfold State.restartAnchor
  split
  · exact ⟨rfl, rfl⟩
  · exact ⟨rfl, rfl⟩

theorem State.enableLink_link_state (s : State) : s.enableLink.link.state = .idle := by
  unfold State.enableLink
  dsimp only
  rw [State.syncRx_link, (State.restartAnchor_link _).1, State.setLink_link]

theorem State.toIdle_link_state (s : State) : s.toIdle.link.state = .idle ∨ s.toIdle.link.state = .disabled := by
  unfold State.toIdle
  split
  · exact .inl rfl
  dsimp only
  split
  · exact .inl (State.enableLink_link_state _)
  · exact .inr s.enterDisabled_link_state

/-! ## A member's attempt fails -/

/-- A failed attempt or poll at a member: what it reads is unsound and the controller halts, or its message, its persona and
the link's record of the cause change to a state `v`, and the link goes back to Idle unless that has halted the controller
(R57, R58, R62, R159). -/
theorem State.failExchange_cases_of_member {s : State} (c : AttemptCause) (h : s.line.role = .member) :
    (∃ e, s.failExchange c = s.enterHalt e) ∨
      ∃ v, s.KeepsTraffic v ∧ s.failExchange c = v.unlessHalted State.toIdle := by
  unfold State.failExchange
  cases s.exchangeUnsound with
  | some e => exact .inl ⟨e, rfl⟩
  | none =>
    refine .inr ⟨_, ?_, rfl⟩
    generalize hu : s.setLink { s.link with x := { s.link.x with cause := c } } = u
    have hsu : s.KeepsTraffic u := hu ▸ s.keepsTraffic_setLink _
    have hm : u.line.role = .member := hu ▸ h
    simp only [State.failStation_of_member _ _ _ hm]
    refine hsu.trans ?_
    split
    · exact u.keepsTraffic_failMessage _ _ _
    · exact u.keepsTraffic_failMessage _ _ _
    · exact .refl u
    · exact .refl u
    · exact u.keepsTraffic_failMessage _ _ _
    · split
      · exact (u.keepsTraffic_resyncWanted _ _).trans (State.keepsTraffic_failMessage _ _ _ _)
      · exact u.keepsTraffic_failMessage _ _ _
    · exact .refl u

theorem State.keepsTraffic_failExchange {s : State} (c : AttemptCause) (h : s.line.role = .member) :
    s.KeepsTraffic (s.failExchange c) := by
  rcases State.failExchange_cases_of_member c h with ⟨e, he⟩ | ⟨v, hv, he⟩
  · rw [he]; exact s.keepsTraffic_enterHalt e
  · rw [he]; exact hv.unlessHalted v.keepsTraffic_toIdle

/-- A failed attempt that does not halt the controller brings the link back to Idle, or to Disabled (R32, R61). -/
theorem State.failExchange_link_state {s : State} (c : AttemptCause) (h : s.line.role = .member)
    (hh : (s.failExchange c).halted = false) :
    (s.failExchange c).link.state = .idle ∨ (s.failExchange c).link.state = .disabled := by
  rcases State.failExchange_cases_of_member c h with ⟨e, he⟩ | ⟨v, -, he⟩
  · rw [he, State.halted_enterHalt] at hh
    cases hh
  · rw [he] at hh ⊢
    obtain ⟨-, hrun⟩ := State.unlessHalted_of_running hh
    rw [hrun]
    exact v.toIdle_link_state

/-! ## The frame itself -/

/-- The buffered form of a broadcast DATA (R40, R122). -/
def Frame.bcastRx (f : Frame) : RxFrame :=
  { peer := 0, port := f.port, payload := f.payload, persona := 0, bcast := true }

/-- With RXCTL.EN and a buffer free the frame is staged (R40). -/
theorem State.broadcastData_staged {s : State} (f : Frame) (he : s.rxp.en = true) (hb : s.rxp.buffers.length < 2) :
    s.broadcastData f = s.stageRx f.bcastRx := by
  simp [State.broadcastData, Config.rxBuffers, he, hb, Frame.bcastRx]

/-- Otherwise it is dropped, and RXDROP counts it (R40). -/
theorem State.broadcastData_dropped {s : State} (f : Frame) (h : s.rxp.en = false ∨ 2 ≤ s.rxp.buffers.length) :
    s.broadcastData f = s.bump .rxdrop := by
  unfold State.broadcastData
  refine if_neg ?_
  rcases h with hn | hn
  · simp [hn]
  · simp [Config.rxBuffers, Nat.not_lt.mpr hn]

/-- Staged or dropped, the frame changes the buffers and the counters alone, and of the counters RXDROP alone (R40). -/
theorem State.broadcastData_frame (s : State) (f : Frame) :
    (s.broadcastData f).glb = s.glb ∧ (s.broadcastData f).listen = s.listen ∧ (s.broadcastData f).tx = s.tx ∧
      (s.broadcastData f).link = s.link ∧ (s.broadcastData f).counters.dup = s.counters.dup := by
  unfold State.broadcastData
  split
  · exact ⟨rfl, rfl, rfl, rfl, rfl⟩
  · exact ⟨rfl, rfl, rfl, rfl, rfl⟩

/-- A broadcast DATA at a member: the anchor-lost timer restarts, an attempt that awaits its reply fails, and the frame is then
staged or dropped unless that has halted the controller (R40, R54, R57, R60). -/
theorem State.validFrame_broadcastData {s : State} {f : Frame} (hr : s.line.role = .member) (hd : f.dest = 127)
    (hk : f.kind = .data) :
    s.validFrame f =
      if s.link.state = .awaiting then
        (s.restartAnchor.failExchange .timeout).unlessHalted fun u => u.broadcastData f
      else s.restartAnchor.broadcastData f := by
  simp [State.validFrame, hr, State.memberFrame, hd, State.dispatch, hk, State.memberSettles,
    (State.restartAnchor_link s).1]

/-- What goes before the frame at its event: it ends at a state `u` that the frame itself then meets, with nothing received or
sent on the way. -/
theorem State.validFrame_broadcastData_cases {s : State} {f : Frame} (hr : s.line.role = .member) (hd : f.dest = 127)
    (hk : f.kind = .data) (hh : (s.validFrame f).halted = false) :
    ∃ u : State, s.validFrame f = u.broadcastData f ∧ u.halted = false ∧ s.KeepsTraffic u ∧
      (s.link.state ≠ .awaiting → u.link.state = s.link.state ∧ u.link.x = s.link.x) ∧
      (s.link.state = .awaiting → u.link.state = .idle ∨ u.link.state = .disabled) := by
  rw [State.validFrame_broadcastData hr hd hk] at hh ⊢
  have hkeep := s.keepsTraffic_restartAnchor
  by_cases ha : s.link.state = .awaiting
  · rw [if_pos ha] at hh ⊢
    have hm : s.restartAnchor.line.role = .member := by simp [State.restartAnchor, hr]
    obtain ⟨hb, hrun⟩ := State.unlessHalted_of_running hh
    exact ⟨_, hrun, hb, hkeep.trans (State.keepsTraffic_failExchange _ hm), fun hn => absurd ha hn,
      fun _ => State.failExchange_link_state _ hm hb⟩
  · rw [if_neg ha] at hh ⊢
    refine ⟨_, rfl, ?_, hkeep, fun _ => s.restartAnchor_link, fun h => absurd h ha⟩
    unfold State.halted at hh ⊢
    rwa [(State.broadcastData_frame _ f).1] at hh

/-- Settles O25: the frame meets a state that differs from the one before its event in nothing the statement names, and is
staged or dropped there. -/
theorem broadcastDataStaged : Obligations.BroadcastDataStaged := by
  intro s f hr hd hk t hh
  obtain ⟨u, ht, hu, hkeep, hstay, hends⟩ := State.validFrame_broadcastData_cases hr hd hk hh
  obtain ⟨-, hlisten, htx, hlink, hdup⟩ := u.broadcastData_frame f
  have ht : t = u.broadcastData f := ht
  rw [ht, htx, hlink, hdup, hkeep.counters]
  refine ⟨fun k => ?_, hkeep.tx hu, hstay, hends, rfl, fun he hb => ?_, fun h => ?_⟩
  · simpa only [State.lsn, hlisten] using hkeep.seqs k
  · rw [← hkeep.rxp] at he hb ⊢
    rw [State.broadcastData_staged f he hb]
    exact ⟨hkeep.counters, rfl⟩
  · rw [← hkeep.rxp] at h ⊢
    rw [State.broadcastData_dropped f h, ← hkeep.counters]
    exact ⟨rfl, rfl⟩

end Sys2Proof.Machine
end

section
/-! PROOFS. INVALIDATE ALL (R94). A command written to an empty queue while nothing is held runs at the event of the write, and
where it leaves nothing waiting the event ends with it; INVALIDATE ALL without NOTIFY is such a command. -/

namespace Sys2Proof.Machine

/-! ## The Command Queue at the end of an event -/

theorem State.wakeWrite_of_awake {s : State} (h : s.awake = true) : s.wakeWrite = s := by
  obtain ⟨-, hp⟩ := s.awake_iff.mp h
  refine if_neg fun hd => ?_
  rcases hp with hp | hp
  · rw [hp] at hd; cases hd
  · rw [hp] at hd; cases hd

theorem State.enqueue_of_empty {s : State} (c : Cmd) (h : s.cmd.queue = []) :
    s.enqueue c = s.setCmd { s.cmd with queue := [c] } := by
  simp [State.enqueue, h, Config.commandDepth]

theorem State.pump_of_empty {s : State} (n : Nat) (h : s.cmd.queue = []) : State.pump n s = s := by
  cases n with
  | zero => rfl
  | succ n => simp [State.pump, State.headStep, h]

/-- With nothing held and one step of the head command to a state in which nothing waits, the event ends there (R146). -/
theorem State.settle_of_headStep {s t : State} (hrun : s.halted = false) (hhold : s.cq.holding = [])
    (hstep : s.headStep = some t) (ht : t.NothingWaits) : s.settle = t := by
  obtain ⟨hthold, htq⟩ := ht
  have hquiet : State.settleQuiet s.cq.holding.length s = s := by rw [hhold]; rfl
  have hpump : State.pump s.pumpFuel s = t := by
    obtain ⟨n, hn⟩ : ∃ n, s.pumpFuel = n + 1 := ⟨4 * s.cmd.queue.length + 3, by simp only [State.pumpFuel]; omega⟩
    rw [hn]
    simp only [State.pump, hrun, hstep, Bool.false_eq_true, if_false]
    exact State.pump_of_empty n htq
  have hblock : t.noteBlocking = t := by simp [State.noteBlocking, State.headNeedsRecord, hthold]
  simp [State.settle, hrun, hquiet, hpump, hblock]

/-- A sound fresh head command that passes its checks begins to execute (R146). -/
theorem State.headStep_of_passes {s : State} {c : Cmd} {rest : List Cmd} (hq : s.cmd.queue = c :: rest)
    (hf : s.cmd.head = .fresh) (hs : c.sound = true) (hc : s.headCheck c = .none) :
    s.headStep = some (s.beginHead c) := by
  simp [State.headStep, hq, hf, hs, hc]

/-- A command written alone, sound and passing its checks, that acts with nothing left waiting: the event of the write ends
where it has acted (R144, R146). -/
theorem State.settle_writeCmd {s t : State} {c : Cmd} (h : s.CommandFree) (hs : c.sound = true)
    (hc : s.headCheck c = .none) (hacts : (s.setCmd { s.cmd with queue := [c] }).beginHead c = t)
    (ht : t.NothingWaits) : (s.writeCmd c).settle = t := by
  obtain ⟨hawake, ⟨hhold, hq⟩, hfresh⟩ := h
  obtain ⟨-, hrun⟩ := s.live_iff.mp (State.live_of_awake hawake)
  rw [State.writeCmd, State.wakeWrite_of_awake hawake, State.enqueue_of_empty c hq]
  have hstep := State.headStep_of_passes (s := s.setCmd { s.cmd with queue := [c] }) rfl hfresh hs hc
  exact State.settle_of_headStep hrun hhold (hstep.trans (congrArg some hacts)) ht

/-- A command that reports nothing leaves the queue as it ends (R147). -/
theorem State.endCommand_of_silent {s : State} {c : Cmd} {rest : List Cmd} (code : Code) (hq : s.cmd.queue = c :: rest)
    (hn : c.notify = false) (ho : c.op ≠ opFence) : s.endCommand code = s.popCommand := by
  simp [State.endCommand, hq, hn, ho]

/-- An empty queue with no head in progress is what a lone command leaves behind: popping it restores the state. -/
theorem State.setCmd_of_empty_fresh {s : State} (hq : s.cmd.queue = []) (hf : s.cmd.head = .fresh) :
    s.setCmd { s.cmd with queue := [], head := .fresh } = s := by
  rw [← hq, ← hf]; rfl

/-! ## INVALIDATE ALL -/

theorem exec_invalidateAll (notify : Bool) (t : Byte) (a : BitVec 16) (s : State) :
    exec (.invalidateAll notify t a) s =
      .next (s.access fun u => u.writeCmd { op := opInvalidateAll, notify := notify, tag := t, arg := a }) := rfl

theorem State.beginHead_invalidateAll (s : State) {c : Cmd} (h : c.op = opInvalidateAll) :
    s.beginHead c = s.invalidateAll.endCommand .ok := by
  simp [State.beginHead, h, opNop, opInvalidateChannel, opInvalidateAll]

/-- Neither role nor argument rejects INVALIDATE ALL (R146). -/
theorem State.headCheck_invalidateAll (s : State) {c : Cmd} (h : c.op = opInvalidateAll) : s.headCheck c = .none := by
  simp [State.headCheck, anchorOnly, badArgument, h, opInvalidateAll, opInvalidateChannel, opLineBreak, opSyncAll,
    opStationReset, opRingStart, opRingStop]

theorem State.find_invalidateAll (s : State) (c : Channel) : s.invalidateAll.map.find c = none := rfl

/-- Written alone and without NOTIFY, INVALIDATE ALL has run and left the queue when the event of the write ends (R146,
R147). -/
theorem State.settle_invalidateAll {s : State} (h : s.CommandFree) (t : Byte) (a : BitVec 16) :
    (s.writeCmd { op := opInvalidateAll, notify := false, tag := t, arg := a }).settle = s.invalidateAll := by
  have ⟨_, hwaits, hfresh⟩ := h
  have hop : opInvalidateAll ≠ opFence := by decide
  refine State.settle_writeCmd h rfl (s.headCheck_invalidateAll rfl) ?_ hwaits
  rw [State.beginHead_invalidateAll _ rfl, State.endCommand_of_silent .ok rfl rfl hop]
  exact State.setCmd_of_empty_fresh (s := s.invalidateAll) hwaits.2 hfresh

/-- Settles O44: the command passes the checks, acts and leaves the queue, all at the event of the write. -/
theorem invalidateAllActs : Obligations.InvalidateAllActs := by
  refine ⟨fun s c hop => s.beginHead_invalidateAll hop, State.find_invalidateAll, fun s t a h => ?_⟩
  rw [exec_invalidateAll, State.access_of_live _ (State.live_of_awake h.1), State.settle_invalidateAll h]
  rfl

end Sys2Proof.Machine
end

section
/-! PROOFS. The invariants of every step. Each operation of the machine is followed once: what it keeps is one relation between
the state before it and the state after it, closed under sequence, so that a step keeps what its operations keep. -/

namespace Sys2Proof.Machine

set_option Elab.async false

/-! ## What an operation keeps -/

/-- `t` meets each invariant that `s` meets. -/
structure State.Preserves (s t : State) : Prop where
  released : s.LineReleased → t.LineReleased := by exact id
  buffers : s.BuffersFit → t.BuffersFit := by exact id
  legal : s.ConfigLegal → t.ConfigLegal := by exact id
  indices : s.IndicesFit → t.IndicesFit := by exact id
  reserved : s.RecordsReserved → t.RecordsReserved := by exact id

/-- Besides, `t` holds the configuration of `s` (R165). -/
structure State.Keeps (s t : State) : Prop extends s.Preserves t where
  config : s.SameConfig t := by
    exact ⟨rfl, rfl, rfl, rfl, fun _ => ⟨rfl, rfl⟩, rfl, rfl, fun _ => ⟨rfl, rfl⟩, rfl, rfl, rfl, rfl, rfl, rfl, rfl, rfl,
      fun _ _ _ => rfl⟩

/-- Besides, in member role and with no command queued, no record has changed and no command come (R62). -/
structure State.Works (s t : State) : Prop extends s.Keeps t where
  member : s.line.role = .member → s.cmd.queue = [] → t.stn = s.stn ∧ t.cmd.queue = [] := by
    exact fun _ hq => ⟨rfl, hq⟩

variable {s t u : State}

theorem State.SameConfig.role (h : s.SameConfig t) : t.line.role = s.line.role := by rw [h.1]

theorem State.SameConfig.trans (h : s.SameConfig t) (h' : t.SameConfig u) : s.SameConfig u := by
  obtain ⟨a1, a2, a3, a4, a5, a6, a7, a8, a9, a10, a11, a12, a13, a14, a15, a16, a17⟩ := h
  obtain ⟨b1, b2, b3, b4, b5, b6, b7, b8, b9, b10, b11, b12, b13, b14, b15, b16, b17⟩ := h'
  exact ⟨b1.trans a1, b2.trans a2, b3.trans a3, b4.trans a4,
    fun k => ⟨(b5 k).1.trans (a5 k).1, (b5 k).2.trans (a5 k).2⟩, b6.trans a6, b7.trans a7,
    fun n => ⟨(b8 n).1.trans (a8 n).1, (b8 n).2.trans (a8 n).2⟩, b9.trans a9, b10.trans a10, b11.trans a11,
    b12.trans a12, b13.trans a13, b14.trans a14, b15.trans a15, b16.trans a16,
    fun a h0 h1 => (b17 a h0 h1).trans (a17 a h0 h1)⟩

/-- Legal values that stay the same stay legal. -/
theorem State.SameConfig.legal (h : s.SameConfig t) (hl : s.ConfigLegal) : t.ConfigLegal := by
  obtain ⟨hline, -, hlen, -, -, hbase, hmlen, hring, hrb, hrs, hcb, hcs, -⟩ := h
  unfold State.ConfigLegal at hl ⊢
  simp only [hline, hlen, hbase, hmlen, fun n => (hring n).1, fun n => (hring n).2, hrb, hrs, hcb, hcs]
  exact hl

theorem State.Preserves.trans (h : s.Preserves t) (h' : t.Preserves u) : s.Preserves u where
  released := h'.released ∘ h.released
  buffers := h'.buffers ∘ h.buffers
  legal := h'.legal ∘ h.legal
  indices := h'.indices ∘ h.indices
  reserved := h'.reserved ∘ h.reserved

theorem State.Keeps.trans (h : s.Keeps t) (h' : t.Keeps u) : s.Keeps u where
  toPreserves := h.toPreserves.trans h'.toPreserves
  config := h.config.trans h'.config

theorem State.Works.trans (h : s.Works t) (h' : t.Works u) : s.Works u where
  toKeeps := h.toKeeps.trans h'.toKeeps
  member hr hq := by
    obtain ⟨hst, hqt⟩ := h.member hr hq
    obtain ⟨hsu, hqu⟩ := h'.member (h.config.role.trans hr) hqt
    exact ⟨hsu.trans hst, hqu⟩

theorem State.Preserves.refl (s : State) : s.Preserves s := {}
theorem State.Keeps.refl (s : State) : s.Keeps s := {}
theorem State.Works.refl (s : State) : s.Works s := {}

/-- In anchor role nothing is asked of the records. -/
theorem State.Keeps.works_of_anchor (h : s.Keeps t) (hr : s.line.role = .anchor) : s.Works t where
  toKeeps := h
  member hm := by rw [hr] at hm; cases hm

/-- With a command queued nothing is asked of the records. -/
theorem State.Keeps.works_of_queue {c : Cmd} {rest : List Cmd} (h : s.Keeps t) (hq : s.cmd.queue = c :: rest) :
    s.Works t where
  toKeeps := h
  member _ hn := by rw [hq] at hn; cases hn

/-! ## Branches and Halt -/

theorem State.Works.ite {c : Prop} [Decidable c] {a b : State} (ha : c → s.Works a) (hb : ¬c → s.Works b) :
    s.Works (if c then a else b) := by
  split
  · exact ha ‹_›
  · exact hb ‹_›

theorem State.Keeps.ite {c : Prop} [Decidable c] {a b : State} (ha : c → s.Keeps a) (hb : ¬c → s.Keeps b) :
    s.Keeps (if c then a else b) := by
  split
  · exact ha ‹_›
  · exact hb ‹_›

theorem State.Preserves.ite {c : Prop} [Decidable c] {a b : State} (ha : c → s.Preserves a) (hb : ¬c → s.Preserves b) :
    s.Preserves (if c then a else b) := by
  split
  · exact ha ‹_›
  · exact hb ‹_›

/-- A Halt entry releases the line (R161). -/
theorem State.Works.enterHalt (h : s.Works t) (c : HaltCause) : s.Works (t.enterHalt c) :=
  h.trans (.ite (fun _ => .refl t) fun _ => { released := fun _ _ => ⟨rfl, rfl⟩ })

theorem State.Works.checked {f : State → State} (h : s.Works t) (bad : Option HaltCause) (hf : s.Works (f t)) :
    s.Works (t.checked bad f) := by
  cases bad with
  | none => exact hf
  | some c => exact h.enterHalt c

theorem State.Keeps.checked {f : State → State} (bad : Option HaltCause) (hf : s.Keeps (f s)) :
    s.Keeps (s.checked bad f) := by
  cases bad with
  | none => exact hf
  | some c => exact ((Works.refl s).enterHalt c).toKeeps

theorem State.Works.unlessHalted {f : State → State} (h : s.Works t) (hf : s.Works (f t)) :
    s.Works (t.unlessHalted f) := .ite (fun _ => h) fun _ => hf

theorem State.Keeps.unlessHalted {f : State → State} (h : s.Keeps t) (hf : s.Keeps (f t)) :
    s.Keeps (t.unlessHalted f) := .ite (fun _ => h) fun _ => hf

/-! ## The updates of one block -/

/-- The receiver's activity as it was, or none. -/
theorem State.Works.setRx (h : s.Works t) (r : LineRx)
    (ha : r.active = t.rx.active ∨ r.active = false := by exact .inl rfl) :
    s.Works (t.setRx r) :=
  h.trans
    { released := fun hl hn => ⟨(hl hn).1, by rcases ha with ha | ha; exacts [ha.trans (hl hn).2, ha]⟩ }

/-- The transmitter's phase as it was, or off. -/
theorem State.Works.setTx (h : s.Works t) (x : LineTx)
    (hx : x.phase = t.tx.phase ∨ x.phase = .off := by exact .inl rfl) :
    s.Works (t.setTx x) :=
  h.trans
    { released := fun hl hn => by
        obtain ⟨hlde, hrx⟩ := hl hn
        refine ⟨?_, hrx⟩
        rcases hx with hx | hx
        · simpa [State.lde, hx] using hlde
        · simp [State.lde, hx] }

theorem State.Works.setLink (h : s.Works t) (v : Link) : s.Works (t.setLink v) := h.trans {}
theorem State.Works.setFrx (h : s.Works t) (v : Frx) : s.Works (t.setFrx v) := h.trans {}
theorem State.Works.setFlt (h : s.Works t) (v : FaultUnit) : s.Works (t.setFlt v) := h.trans {}
theorem State.Works.setBus (h : s.Works t) (v : Bus) : s.Works (t.setBus v) := h.trans {}
theorem State.Works.setWakeDet (h : s.Works t) (v : BreakDet) : s.Works (t.setWakeDet v) := h.trans {}
theorem State.Works.setSlots (h : s.Works t) (v : Vector (Option Message) 2) : s.Works (t.setSlots v) := h.trans {}
theorem State.Works.setSlot (h : s.Works t) (k : Fin 2) (m : Option Message) : s.Works (t.setSlot k m) := h.setSlots _
theorem State.Works.bump (h : s.Works t) (c : Counter) : s.Works (t.bump c) := h.trans {}
theorem State.Works.raise (h : s.Works t) (c : IrqCause) : s.Works (t.raise c) := h.trans {}
theorem State.Works.lockedWrite (h : s.Works t) : s.Works t.lockedWrite := h.trans {}
theorem State.Works.releaseError (h : s.Works t) : s.Works t.releaseError := h.trans {}

/-- A Command Queue that has not grown. -/
theorem State.Works.setCmd (h : s.Works t) (v : CommandQueue)
    (hq : v.queue.length ≤ t.cmd.queue.length := by exact le_rfl) :
    s.Works (t.setCmd v) :=
  h.trans
    { buffers := fun ⟨hc, hb, hm⟩ => ⟨hq.trans hc, hb, hm⟩
      member := fun _ hn => ⟨rfl, by rw [hn] at hq; exact List.length_eq_zero_iff.mp (Nat.le_zero.mp hq)⟩ }

/-- A map whose cache fits if it fitted before. -/
theorem State.Works.setMap (h : s.Works t) (v : ChannelMap) (hc : t.map.cache.length ≤ Config.cacheEntries → v.cache.length ≤ Config.cacheEntries := by exact id)
    (hb : v.base = t.map.base := by rfl) (hl : v.len = t.map.len := by rfl) : s.Works (t.setMap v) := by
  have hsame : t.SameConfig (t.setMap v) :=
    ⟨rfl, rfl, rfl, rfl, fun _ => ⟨rfl, rfl⟩, hb, hl, fun _ => ⟨rfl, rfl⟩, rfl, rfl, rfl, rfl, rfl, rfl, rfl, rfl,
      fun _ _ _ => rfl⟩
  exact h.trans
    { buffers := fun ⟨hq, hr, hm⟩ => ⟨hq, hr, hc hm⟩, legal := hsame.legal, config := hsame }

theorem nextIndex_lt {w : Nat} (i : BitVec w) (k : BitVec 4) : (nextIndex i k).toNat < sizeOf2 k := by
  have hpos : 0 < sizeOf2 k := Nat.two_pow_pos _
  rw [nextIndex, BitVec.toNat_ofNat]
  exact (Nat.mod_le _ _).trans_lt (Nat.mod_lt _ hpos)

/-- A receive path with its registers as they were, RXCONS perhaps advanced, and a list of frames that fits. -/
theorem State.Works.setRxp (h : s.Works t) (v : RxPath)
    (hl : t.rxp.buffers.length ≤ Config.rxBuffers → v.buffers.length ≤ Config.rxBuffers := by exact id)
    (hc : v.cons = t.rxp.cons ∨ v.cons = nextIndex t.rxp.cons t.rxp.size := by exact .inl rfl)
    (hb : v.base = t.rxp.base := by rfl) (hz : v.size = t.rxp.size := by rfl) (hp : v.prod = t.rxp.prod := by rfl) :
    s.Works (t.setRxp v) := by
  have hsame : t.SameConfig (t.setRxp v) :=
    ⟨rfl, rfl, rfl, rfl, fun _ => ⟨rfl, rfl⟩, rfl, rfl, fun _ => ⟨rfl, rfl⟩, hb, hz, rfl, rfl, rfl, rfl, rfl, rfl,
      fun _ _ _ => rfl⟩
  refine h.trans
    { buffers := fun ⟨hq, hr, hm⟩ => ⟨hq, hl hr, hm⟩, legal := hsame.legal, config := hsame, indices := ?_ }
  rintro ⟨hr, hip, hic, hq⟩
  refine ⟨hr, ?_, ?_, hq⟩
  · simpa [hz, hp] using hip
  · rcases hc with hc | hc
    · simpa [hz, hc] using hic
    · simpa [hz, hc] using nextIndex_lt t.rxp.cons t.rxp.size

/-- A Completion Writer with its registers as they were and CQTAIL perhaps advanced. -/
theorem State.Works.setCq (h : s.Works t) (v : Completion)
    (ht : v.tail = t.cq.tail ∨ v.tail = nextIndex t.cq.tail t.cq.size := by exact .inl rfl)
    (hb : v.base = t.cq.base := by rfl) (hz : v.size = t.cq.size := by rfl) (hn : v.count = t.cq.count := by rfl)
    (hd : v.delay = t.cq.delay := by rfl) (hh : v.head = t.cq.head := by rfl) : s.Works (t.setCq v) := by
  have hsame : t.SameConfig (t.setCq v) :=
    ⟨rfl, rfl, rfl, rfl, fun _ => ⟨rfl, rfl⟩, rfl, rfl, fun _ => ⟨rfl, rfl⟩, rfl, rfl, hb, hz, hn, hd, rfl, rfl,
      fun _ _ _ => rfl⟩
  refine h.trans { legal := hsame.legal, config := hsame, indices := ?_ }
  rintro ⟨hr, hip, hic, hqh, hqt⟩
  refine ⟨hr, hip, hic, ?_, ?_⟩
  · simpa [hz, hh] using hqh
  · rcases ht with ht | ht
    · simpa [hz, ht] using hqt
    · simpa [hz, ht] using nextIndex_lt t.cq.tail t.cq.size

theorem State.ring_setRing (s : State) (n j : Fin 4) (r : Ring) :
    (s.setRing n r).ring j = if n = j then r else s.ring j := by
  split
  next h => rw [← h]; exact s.ring_setRing_self n r
  next h => exact State.ring_setRing_other r h

theorem State.lsn_setLsn (s : State) (k j : Fin 4) (v : ListenSlot) :
    (s.setLsn k v).lsn j = if k = j then v else s.lsn j := by
  split
  next h => rw [← h]; exact s.lsn_setLsn_self k v
  next h => exact State.lsn_setLsn_other v h

theorem State.station_setStation (s : State) {a : LineAddr} (b : LineAddr) (r : Station) (h0 : a ≠ 0) (h1 : a ≠ 127) :
    (s.setStation a r).station b = if a = b then r else s.station b := by
  split
  next h => rw [← h]; exact State.station_setStation_self r h0 h1
  next h => exact State.station_setStation_other r h

/-- A ring with its registers as they were and TXCONSn perhaps advanced. -/
theorem State.Works.setRing (h : s.Works t) (n : Fin 4) (r : Ring)
    (hc : r.cons = (t.ring n).cons ∨ r.cons = nextIndex (t.ring n).cons (t.ring n).size := by exact .inl rfl)
    (hb : r.base = (t.ring n).base := by rfl) (hz : r.size = (t.ring n).size := by rfl)
    (hp : r.prod = (t.ring n).prod := by rfl) : s.Works (t.setRing n r) := by
  have hring (j : Fin 4) : ((t.setRing n r).ring j).base = (t.ring j).base ∧
      ((t.setRing n r).ring j).size = (t.ring j).size := by
    rw [State.ring_setRing]
    split
    next e => exact e ▸ ⟨hb, hz⟩
    next => exact ⟨rfl, rfl⟩
  have hsame : t.SameConfig (t.setRing n r) :=
    ⟨rfl, rfl, rfl, rfl, fun _ => ⟨rfl, rfl⟩, rfl, rfl, hring, rfl, rfl, rfl, rfl, rfl, rfl, rfl, rfl, fun _ _ _ => rfl⟩
  refine h.trans { legal := hsame.legal, config := hsame, indices := ?_ }
  rintro ⟨hr, hrest⟩
  refine ⟨fun j => ?_, hrest⟩
  rw [State.ring_setRing]
  split
  next e =>
    subst e
    rw [hz, hp]
    refine ⟨(hr n).1, ?_⟩
    rcases hc with hc | hc
    · rw [hc]; exact (hr n).2
    · rw [hc]; exact nextIndex_lt _ _
  next => exact hr j

/-- Listen slots whose Address and Enabled are as they were. -/
theorem State.Works.setListen (h : s.Works t) (v : Vector ListenSlot 4)
    (hv : ∀ k : Fin 4, ((t.setListen v).lsn k).address = (t.lsn k).address ∧
      ((t.setListen v).lsn k).enabled = (t.lsn k).enabled) : s.Works (t.setListen v) :=
  h.trans
    { config := ⟨rfl, rfl, rfl, rfl, hv, rfl, rfl, fun _ => ⟨rfl, rfl⟩, rfl, rfl, rfl, rfl, rfl, rfl, rfl, rfl,
        fun _ _ _ => rfl⟩ }

theorem State.Works.setLsn (h : s.Works t) (k : Fin 4) (v : ListenSlot) (ha : v.address = (t.lsn k).address := by rfl)
    (he : v.enabled = (t.lsn k).enabled := by rfl) : s.Works (t.setLsn k v) :=
  h.setListen _ fun j => by
    change ((t.setLsn k v).lsn j).address = _ ∧ ((t.setLsn k v).lsn j).enabled = _
    rw [State.lsn_setLsn]
    split
    next e => exact e ▸ ⟨ha, he⟩
    next => exact ⟨rfl, rfl⟩

theorem State.lsn_syncSlots (s : State) (k : Fin 4) :
    s.syncSlots.lsn k = if (s.lsn k).enabled = true then (s.lsn k).synced else s.lsn k :=
  Vector.getElem_map _ k.isLt

theorem State.Works.syncSlots (h : s.Works t) : s.Works t.syncSlots :=
  h.setListen _ fun k => by
    change (t.syncSlots.lsn k).address = _ ∧ (t.syncSlots.lsn k).enabled = _
    rw [State.lsn_syncSlots]
    split
    · exact ⟨rfl, rfl⟩
    · exact ⟨rfl, rfl⟩

/-! ## Station records -/

/-- Records 0 and 127 are never written (R62). -/
theorem State.Preserves.setStation (s : State) (a : LineAddr) (r : Station) : s.Preserves (s.setStation a r) := by
  have hset : s.RecordsReserved → (s.setStation a r).RecordsReserved := by
    rintro ⟨h0, h127⟩
    by_cases ha : a = 0 ∨ a = 127
    · rw [State.setStation_reserved r ha]; exact ⟨h0, h127⟩
    · rw [not_or] at ha
      exact ⟨(State.station_setStation_other r ha.1).trans h0, (State.station_setStation_other r ha.2).trans h127⟩
  by_cases ha : a = 0 ∨ a = 127
  · rw [State.setStation_reserved r ha]; exact .refl s
  · rw [State.setStation, if_neg ha] at hset ⊢
    exact { reserved := hset }

/-- A record with its Accept as it was. -/
theorem State.Keeps.setStation (h : s.Keeps t) (a : LineAddr) (r : Station) (hr : r.accept = (t.station a).accept := by rfl) :
    s.Keeps (t.setStation a r) := by
  have hacc (b : LineAddr) : ((t.setStation a r).station b).accept = (t.station b).accept := by
    by_cases ha : a = 0 ∨ a = 127
    · rw [State.setStation_reserved r ha]
    · rw [not_or] at ha
      rw [State.station_setStation t b r ha.1 ha.2]
      split
      next e => exact e ▸ hr
      next => rfl
  refine h.trans { toPreserves := .setStation t a r, config := ?_ }
  by_cases ha : a = 0 ∨ a = 127
  · rw [State.setStation_reserved r ha]; exact (Keeps.refl t).config
  · rw [State.setStation, if_neg ha] at hacc ⊢
    exact ⟨rfl, rfl, rfl, rfl, fun _ => ⟨rfl, rfl⟩, rfl, rfl, fun _ => ⟨rfl, rfl⟩, rfl, rfl, rfl, rfl, rfl, rfl, rfl,
      rfl, fun b _ _ => hacc b⟩

theorem State.Keeps.setPresence (h : s.Keeps t) (a : LineAddr) (p : Presence) : s.Keeps (t.setPresence a p) :=
  .ite (fun _ => h) fun _ => (h.setStation a { t.station a with presence := p }).trans {}

theorem State.Keeps.replyMark (h : s.Keeps t) (a : LineAddr) : s.Keeps (t.replyMark a) :=
  (h.setStation a _).setPresence a _

theorem State.Keeps.missMark (h : s.Keeps t) (a : LineAddr) : s.Keeps (t.missMark a) :=
  .ite (fun _ => (h.setStation a _).setPresence a _) fun _ => h.setStation a _

theorem State.Keeps.failureMark (h : s.Keeps t) (a : LineAddr) : s.Keeps (t.failureMark a) := h.setStation a _

theorem State.Keeps.setResync (h : s.Keeps t) (a : LineAddr) (v : Bool) : s.Keeps (t.setResync a v) :=
  h.setStation a _

theorem State.station_syncAllStations (s : State) (a : LineAddr) :
    s.syncAllStations.station a = if a = 0 ∨ a = 127 then s.station a else (s.station a).syncedAll := by
  have h0 : (a = 0) = (a.toNat = 0) := propext (BitVec.toNat_inj (y := 0#7)).symm
  have h127 : (a = 127) = (a.toNat = 127) := propext (BitVec.toNat_inj (y := 127#7)).symm
  simp only [State.syncAllStations, State.station, State.setStn_stn, h0, h127, Vector.getElem_set, Vector.getElem_map]
  grind

theorem State.Keeps.syncAllStations (s : State) : s.Keeps s.syncAllStations where
  reserved hr := by
    simpa [State.RecordsReserved, State.station_syncAllStations] using hr
  config := ⟨rfl, rfl, rfl, rfl, fun _ => ⟨rfl, rfl⟩, rfl, rfl, fun _ => ⟨rfl, rfl⟩, rfl, rfl, rfl, rfl, rfl, rfl, rfl,
    rfl, fun a h0 h1 => by rw [State.station_syncAllStations, if_neg (not_or.mpr ⟨h0, h1⟩)]; rfl⟩

theorem State.Works.syncRecords (h : s.Works t) : s.Works t.syncRecords := by
  rcases t.syncRecords_cases with ⟨hr, he⟩ | ⟨-, he⟩
  · rw [he]; exact h.trans ((State.Keeps.syncAllStations t).works_of_anchor hr)
  · rwa [he]

end Sys2Proof.Machine
end

section
/-! PROOFS. What the shared operations keep: the Fault Unit, the holding list, finishing, the link's exchanges and the command
queue. -/

namespace Sys2Proof.Machine

set_option Elab.async false

variable {s t u : State}

/-! ## The Fault Unit and DMA -/

theorem State.Works.present (h : s.Works t) : s.Works t.present := by
  rcases t.present_cases with he | ⟨i, r, -, -, he⟩
  · rwa [he]
  · rw [he]; exact (h.setFlt _).raise _

theorem State.Works.post (h : s.Works t) (r : FaultRecord) : s.Works (t.post r) := (h.setFlt _).present

theorem State.Works.nextFault (h : s.Works t) : s.Works t.nextFault := (h.setFlt _).present

theorem State.Works.orphanDone (h : s.Works t) (k : DmaKind) : s.Works (t.orphanDone k) := by
  obtain ⟨b, hb⟩ := t.orphanDone_cases k
  rw [hb]; exact h.setBus b

theorem State.Works.finished (h : s.Works t) (k : DmaKind) : s.Works (t.finished k) :=
  .ite (fun _ => h.setBus _) fun _ => h

/-! ## The receiver's activation -/

/-- The receiver is active in no state that does not work, for R5 wants it there in none. -/
theorem State.Works.syncRx (h : s.Works t) : s.Works t.syncRx := by
  have hwant : t.rxWanted = true → t.awake = true := fun hw => (Bool.and_eq_true_iff.mp hw).1
  unfold State.syncRx
  split
  · exact h
  split
  next hw =>
    exact h.trans { released := fun _ hn => absurd ((hwant hw).symm.trans hn) (by simp) }
  · exact (h.setRx {} (.inr rfl)).setFrx _

theorem State.Works.dropRx (h : s.Works t) : s.Works t.dropRx := (h.setRx {} (.inr rfl)).setFrx _

/-! ## The holding list -/

theorem State.Works.join (h : s.Works t) (e : Entry) : s.Works (t.join e) := h.setCq _

theorem State.Works.setRingState (h : s.Works t) (n : Fin 4) (st : RingState) : s.Works (t.setRingState n st) :=
  h.setRing n _

theorem State.Works.advanceCons (h : s.Works t) (n : Fin 4) : s.Works (t.advanceCons n) := h.setRing n _ (.inr rfl)

theorem State.Works.stopRing (h : s.Works t) (n : Fin 4) : s.Works (t.stopRing n) := (h.setRingState n _).join _

theorem State.Works.stopIfFree (h : s.Works t) (n : Fin 4) : s.Works (t.stopIfFree n) :=
  .ite (fun _ => h.stopRing n) fun _ => h

theorem State.Works.popCommand (h : s.Works t) : s.Works t.popCommand := h.setCmd _ (by simp)

theorem State.Works.setHead (h : s.Works t) (p : HeadProgress) : s.Works (t.setHead p) := h.setCmd _

theorem State.Works.endCommand (h : s.Works t) (c : Code) : s.Works (t.endCommand c) := by
  unfold State.endCommand
  split
  · exact h
  · exact .ite (fun _ => (h.join _).setCmd _) fun _ => h.popCommand

theorem State.Works.release (h : s.Works t) (e : Entry) : s.Works (t.release e) := by
  unfold State.release
  split
  · exact ((h.advanceCons _).setSlot _ _).stopIfFree _
  · exact State.Works.stopIfFree (.ite (fun _ => h.advanceCons _) fun _ => h) _
  · exact h
  · exact h.popCommand

theorem State.Works.settleQuiet (h : s.Works t) (n : Nat) : s.Works (State.settleQuiet n t) := by
  induction n generalizing t with
  | zero => exact h
  | succ n ih =>
    unfold State.settleQuiet
    split
    · exact h
    · exact .ite (fun _ => ih ((h.setCq _).release _)) fun _ => h

theorem State.Works.noteBlocking (h : s.Works t) : s.Works t.noteBlocking :=
  .ite (fun _ => (h.setCq _).raise _) fun _ => h

theorem State.Works.recordIssue (h : s.Works t) : s.Works t.recordIssue := by
  unfold State.recordIssue
  split
  · exact h
  · exact .ite (fun _ => h.setCq _) fun _ => h

theorem State.Works.moderate (h : s.Works t) (ioc : Bool) : s.Works (t.moderate ioc) :=
  .ite (fun _ => (h.setCq _).raise _) fun _ => .ite (fun _ => h.setCq _) fun _ => h.setCq _

theorem State.Works.recordWritten (h : s.Works t) : s.Works t.recordWritten := by
  unfold State.recordWritten
  split
  · exact h.setCq _
  · exact State.Works.setCq (((h.setCq _ (.inr rfl)).release _).moderate _) _

theorem State.Works.recordFailed (h : s.Works t) : s.Works t.recordFailed := by
  unfold State.recordFailed
  split
  · exact h.setCq _
  · exact (h.setCq _).post _

theorem State.Works.recordDone (h : s.Works t) (r : WriteResult) : s.Works (t.recordDone r) := by
  cases r with
  | ok => exact h.recordWritten
  | error => exact h.recordFailed

theorem State.Works.discardHead (h : s.Works t) : s.Works t.discardHead := by
  unfold State.discardHead
  split
  · exact h
  · exact (h.setCq _).release _

theorem State.Works.moderationExpire (h : s.Works t) : s.Works t.moderationExpire := (h.setCq _).raise _

/-! ## The Channel Cache and finishing -/

theorem State.Works.cacheParity (h : s.Works t) (p : FaultPhase) (i : Byte) (c : Channel) :
    s.Works (t.cacheParity p i c) :=
  .ite (fun _ => h.enterHalt _) fun _ => .ite (fun _ => h.enterHalt _) fun _ =>
    (h.setMap _ (fun hc => (List.length_filter_le _ _).trans hc)).post _

theorem State.Works.updateMap (h : s.Works t) (c : Channel) (f : MapEntry → MapEntry) :
    s.Works (t.setMap (t.map.update c f)) :=
  h.setMap _ (fun hc => (List.length_map (as := t.map.cache) _).trans_le hc)

theorem State.Works.cacheErr (h : s.Works t) (i : Byte) (c : Channel) : s.Works (t.cacheErr i c) := by
  unfold State.cacheErr
  split
  · exact h
  · exact .ite (fun _ => h.updateMap _ _) fun _ => h.cacheParity _ _ _

theorem State.Works.joinMessage (h : s.Works t) (k : Fin 2) (m : Message) : s.Works (t.joinMessage k m) :=
  (h.setSlot k _).join _

theorem State.Works.finishDone (h : s.Works t) (k : Fin 2) (m : Message) : s.Works (t.finishDone k m) :=
  (h.cacheErr _ _).unlessHalted ((h.cacheErr _ _).joinMessage k m)

theorem State.Works.giveOutcome (h : s.Works t) (k : Fin 2) (c : Code) : s.Works (t.giveOutcome k c) := by
  unfold State.giveOutcome
  split
  · exact h
  · exact .ite (fun _ => .ite (fun _ => h.setSlot k _) fun _ => h.finishDone k _) fun _ => h.joinMessage k _

theorem State.Works.abandonSlot (h : s.Works t) (k : Fin 2) : s.Works (t.abandonSlot k) := by
  unfold State.abandonSlot
  split
  · exact h
  next m _ =>
    have h1 : s.Works (if t.dmaOpen then t.setBus { t.bus with abandoned := t.bus.abandoned ++ m.dma } else t) :=
      .ite (fun _ => h.setBus _) fun _ => h
    exact State.Works.setSlot (.ite (fun _ => h1.setMap _) fun _ => h1) k none

theorem State.Works.settleStopping (h : s.Works t) (k : Fin 2) : s.Works (t.settleStopping k) := by
  unfold State.settleStopping
  split
  · exact h
  · exact .ite (fun _ => h.giveOutcome k _) fun _ => h

theorem State.Works.settleCancelled (h : s.Works t) (k : Fin 2) : s.Works (t.settleCancelled k) := by
  unfold State.settleCancelled
  split
  · exact h
  · exact .ite (fun _ => .ite (fun _ => h.checked _ (h.giveOutcome k _)) fun _ => (h.abandonSlot k).stopIfFree _)
      fun _ => h

/-! ## Link states -/

theorem State.Works.restartAnchor (h : s.Works t) : s.Works t.restartAnchor := .ite (fun _ => h.setLink _) fun _ => h

theorem State.Works.enableLink (h : s.Works t) : s.Works t.enableLink := (h.setLink _).restartAnchor.syncRx

theorem State.Works.enterDisabled (h : s.Works t) : s.Works t.enterDisabled :=
  .ite (fun _ => (h.setLink _).dropRx) fun _ => h.setLink _

theorem State.Works.toIdle (h : s.Works t) : s.Works t.toIdle :=
  .ite (fun _ => h.setLink _) fun _ => .ite (fun _ => h.enterDisabled.enableLink) fun _ => h.enterDisabled

theorem State.Works.cancelGuard (h : s.Works t) : s.Works t.cancelGuard := by
  unfold State.cancelGuard
  split
  · exact h.toIdle
  · exact h.toIdle.settleCancelled _

/-! ## The end of an attempt or poll -/

theorem State.Works.failMessage (h : s.Works t) (k : Fin 2) (c : AttemptCause) (silent : Bool) :
    s.Works (t.failMessage k c silent) := by
  unfold State.failMessage
  split
  · exact h
  · exact .ite (fun _ => (h.setSlot k _).giveOutcome k _) fun _ => (h.setSlot k _).settleStopping k

theorem State.Works.failStation (h : s.Works t) (a : LineAddr) (c : AttemptCause) (final : Bool) :
    s.Works (t.failStation a c final) := by
  refine .ite (fun hr => h.trans (State.Keeps.works_of_anchor ?_ hr)) fun _ => h
  have h1 : t.Keeps (if c = .timeout then (t.failureMark a).missMark a else t.failureMark a) :=
    .ite (fun _ => ((Keeps.refl t).failureMark a).missMark a) fun _ => (Keeps.refl t).failureMark a
  exact .ite (fun _ => h1.setResync a true) fun _ => h1

theorem State.Works.failExchange (h : s.Works t) (c : AttemptCause) : s.Works (t.failExchange c) := by
  refine h.checked _ ?_
  have h1 := h.setLink { t.link with x := { t.link.x with cause := c } }
  generalize t.setLink { t.link with x := { t.link.x with cause := c } } = v at h1
  refine State.Works.unlessHalted ?_ (State.Works.toIdle ?_)
  all_goals
    split
    · exact (h1.failStation _ _ _).failMessage _ _ _
    · exact (h1.failStation _ _ _).failMessage _ _ _
    · exact h1.failStation _ _ _
    · exact h1.failStation _ _ _
    · exact h1.failMessage _ _ _
    · exact State.Works.failMessage (.ite (fun _ => h1.setLsn _ _) fun _ => h1) _ _ _
    · exact h1

theorem State.Works.endMessage (h : s.Works t) (k : Fin 2) (c : Code) : s.Works (t.endMessage k c) := by
  unfold State.endMessage
  split
  · exact h
  · exact (h.setSlot k _).giveOutcome k c

theorem State.Works.nakFull (h : s.Works t) (k : Fin 2) : s.Works (t.nakFull k) := by
  unfold State.nakFull
  split
  · exact h
  · exact .ite (fun _ => (h.setSlot k _).giveOutcome k _) fun _ => (h.setSlot k _).settleStopping k

/-! ## The reply window -/

theorem State.Works.windowExpires (h : s.Works t) : s.Works t.windowExpires := (h.bump _).failExchange _

theorem State.Works.resumeWindow (h : s.Works t) : s.Works t.resumeWindow :=
  .ite (fun _ => (h.setLink _).windowExpires) fun _ => h.setLink _

theorem State.Works.deadlinePasses (h : s.Works t) : s.Works t.deadlinePasses :=
  .ite (fun _ => .ite (fun _ => h.setLink _) fun _ => (h.setLink _).windowExpires) fun _ => h

theorem State.Works.windowAfterChar (h : s.Works t) : s.Works t.windowAfterChar :=
  .ite (fun _ => h.windowExpires) fun _ => h

theorem State.Works.headNotice (h : s.Works t) (b : Bool) : s.Works (t.headNotice b) :=
  .ite (fun _ => h.cancelGuard) fun _ => .ite (fun _ => h.setLink _) fun _ => h

theorem State.Works.discardNotice (h : s.Works t) : s.Works t.discardNotice := .ite (fun _ => h.resumeWindow) fun _ => h

/-! ## Inbound DATA -/

theorem State.Works.stageRx (h : s.Works t) (f : RxFrame) (hb : t.rxp.buffers.length < Config.rxBuffers) :
    s.Works (t.stageRx f) := h.setRxp _ fun _ => by simpa using hb

/-- A frame is accepted into a free buffer alone (R39). -/
theorem State.inbound_accepted {accept b : Bool} {q : Option Bool} (h : s.inbound accept q b = .accepted) :
    s.rxp.buffers.length < Config.rxBuffers := by
  unfold State.inbound at h
  split at h
  · cases h
  split at h
  · cases h
  split at h
  · cases h
  · omega

theorem State.Works.applyInbound (h : s.Works t) (i : Inbound) (f : RxFrame)
    (hi : i = .accepted → t.rxp.buffers.length < Config.rxBuffers) : s.Works (t.applyInbound i f) := by
  cases i with
  | duplicate => exact h.bump _
  | accepted => exact h.stageRx f (hi rfl)
  | refused => exact h
  | full => exact h

theorem State.Works.broadcastData (h : s.Works t) (f : Frame) : s.Works (t.broadcastData f) :=
  .ite (fun hc => h.stageRx _ (of_decide_eq_true (Bool.and_eq_true_iff.mp hc).2)) fun _ => h.bump _

/-! ## The anchor's replies -/

theorem State.Works.messageReply (h : s.Works t) (k : Fin 2) (f : Frame) : s.Works (t.messageReply k f) :=
  .ite (fun _ => h.endMessage k _) fun _ => .ite (fun _ => h.endMessage k _) fun _ => h.nakFull k

theorem State.Keeps.outboundReply (s : State) (f : Frame) : s.Keeps (s.outboundReply f) := by
  let a := s.link.x.station
  have h1 : s.Keeps (if f.kind = .ack then s.setStation a { s.station a with outSeq := !(s.station a).outSeq } else s) :=
    .ite (fun _ => (Keeps.refl s).setStation a _) fun _ => .refl s
  have h2 := h1.replyMark a
  have h3 (t : State) : t.Works (match s.link.x.slot with | some k => t.messageReply k f | none => t) := by
    cases s.link.x.slot with
    | none => exact .refl t
    | some k => exact (Works.refl t).messageReply k f
  exact State.Keeps.unlessHalted (h2.trans (h3 _).toKeeps) (h2.trans (h3 _).toIdle.toKeeps)

theorem State.Keeps.dsyncAck (s : State) : s.Keeps s.dsyncAck := by
  let a := s.link.x.station
  have h2 := ((Keeps.refl s).setStation a
    { s.station a with outSeq := false, inSeq := none, resyncNeeded := false }).replyMark a
  have h3 (t : State) : t.Works (match s.link.x.slot with | some k => t.settleStopping k | none => t) := by
    cases s.link.x.slot with
    | none => exact .refl t
    | some k => exact (Works.refl t).settleStopping k
  exact State.Keeps.unlessHalted (h2.trans (h3 _).toKeeps) (h2.trans (h3 _).toIdle.toKeeps)

theorem State.setStation_rxp (s : State) (a : LineAddr) (r : Station) : (s.setStation a r).rxp = s.rxp := by
  unfold State.setStation
  split
  · rfl
  · rfl

theorem State.setPresence_rxp (s : State) (a : LineAddr) (p : Presence) : (s.setPresence a p).rxp = s.rxp := by
  unfold State.setPresence
  split
  · rfl
  · exact State.setStation_rxp ..

theorem State.replyMark_rxp (s : State) (a : LineAddr) : (s.replyMark a).rxp = s.rxp :=
  (State.setPresence_rxp ..).trans (State.setStation_rxp ..)

theorem State.Keeps.pollReply (s : State) (f : Frame) : s.Keeps (s.pollReply f) := by
  let a := s.link.x.station
  have h1 := (Keeps.refl s).replyMark a
  refine .ite (fun _ => ?_) fun _ => ?_
  · have h2 := h1.trans (Works.applyInbound (.refl _) (s.inbound (s.station a).accept (s.station a).inSeq f.seq)
      { peer := a, port := f.port, payload := f.payload, persona := 0, bcast := false }
      (fun hi => by rw [State.replyMark_rxp]; exact State.inbound_accepted hi)).toKeeps
    exact State.Keeps.trans (.ite (fun _ => h2.setStation a _) fun _ => h2) ((Works.refl _).setLink _).toKeeps
  · exact State.Keeps.trans (.ite (fun _ => h1.setResync a true) fun _ => h1) (Works.refl _).toIdle.toKeeps

theorem State.Keeps.anchorReply (s : State) (f : Frame) : s.Keeps (s.anchorReply f) := by
  unfold State.anchorReply
  split
  · exact .outboundReply s f
  · exact .dsyncAck s
  · exact .pollReply s f
  · exact .refl s

theorem State.Keeps.anchorFrame (s : State) (f : Frame) : s.Keeps (s.anchorFrame f) :=
  .ite
    (fun _ => .ite (fun _ => ((Works.refl s).bump _).resumeWindow.toKeeps) fun _ =>
      .checked _ (.ite (fun _ => .anchorReply s f) fun _ => (((Works.refl s).bump _).failExchange _).toKeeps))
    fun _ => ((Works.refl s).bump _).toKeeps

/-! ## The member -/

theorem State.Works.memberReply (h : s.Works t) (k : Fin 4) (j : Option (Fin 2)) (o : OutFrame) :
    s.Works (t.memberReply k j o) := .ite (fun _ => h.setLink _) fun _ => h

theorem State.Works.pollAnswer (h : s.Works t) (k : Fin 4) : s.Works (t.pollAnswer k) := by
  refine .ite (fun _ => h.memberReply _ _ _) fun _ => h.checked _ ?_
  cases t.pollPick k with
  | none => exact h.memberReply _ _ _
  | some j => exact h.memberReply _ _ _

theorem State.Works.memberData (h : s.Works t) (k : Fin 4) (f : Frame) : s.Works (t.memberData k f) := by
  have h1 := h.applyInbound (t.inbound true (t.lsn k).inSeq f.seq)
    { peer := 0, port := f.port, payload := f.payload, persona := k, bcast := false } State.inbound_accepted
  exact State.Works.memberReply (.ite (fun _ => h1.setLsn k _) fun _ => h1) _ _ _

theorem State.Works.dispatch (h : s.Works t) (target : Option (Fin 4)) (f : Frame) : s.Works (t.dispatch target f) := by
  unfold State.dispatch
  split
  next k =>
    refine h.checked _ ?_
    split
    · exact h.memberData k f
    · exact h.pollAnswer k
    · exact (h.setLsn k _).memberReply _ _ _
    all_goals exact h.bump _
  next =>
    split
    · exact h.broadcastData f
    · exact h.checked _ h.syncSlots
    all_goals exact h.bump _

theorem State.Works.memberAck (h : s.Works t) (f : Frame) : s.Works (t.memberAck f) := by
  have h1 : s.Works (if f.kind = .ack
      then t.setLsn t.link.x.lslot { t.lsn t.link.x.lslot with outSeq := !(t.lsn t.link.x.lslot).outSeq } else t) :=
    .ite (fun _ => h.setLsn _ _) fun _ => h
  have h2 (u : State) (hu : s.Works u) :
      s.Works (match t.link.x.slot with | some j => u.messageReply j f | none => u) := by
    cases t.link.x.slot with
    | none => exact hu
    | some j => exact hu.messageReply j f
  exact (h2 _ h1).unlessHalted (h2 _ h1).toIdle

theorem State.Works.memberSettles (h : s.Works t) (target : Option (Fin 4)) (f : Frame) :
    s.Works (t.memberSettles target f) :=
  .ite (fun _ => h.checked _ (h.memberAck f)) fun _ => h.failExchange _

theorem State.Works.memberFrame (h : s.Works t) (f : Frame) : s.Works (t.memberFrame f) :=
  .ite (fun _ => h) fun _ => .ite
    (fun _ => (h.restartAnchor.memberSettles _ f).unlessHalted ((h.restartAnchor.memberSettles _ f).dispatch _ f))
    fun _ => h.restartAnchor.dispatch _ f

theorem State.Works.validFrame (h : s.Works t) (f : Frame) : s.Works (t.validFrame f) := by
  unfold State.validFrame
  split
  next hr => exact h.trans ((Keeps.anchorFrame t f).works_of_anchor hr)
  next => exact h.memberFrame f

/-! ## The ends of transmissions -/

theorem State.Works.endLineCommand (h : s.Works t) (op : BitVec 4) : s.Works (t.endLineCommand op) := by
  unfold State.endLineCommand
  split
  · exact .ite (fun _ => h.endCommand _) fun _ => h
  · exact h

theorem State.Works.endSyncAll (h : s.Works t) : s.Works t.endSyncAll :=
  h.checked _ (h.syncRecords.endLineCommand _).toIdle

theorem State.Works.linkFrameSent (h : s.Works t) : s.Works t.linkFrameSent :=
  .ite (fun _ => h.endSyncAll) fun _ =>
    .ite (fun _ => .ite (fun _ => h.failExchange _) fun _ => h.setLink _) fun _ => h.toIdle

theorem State.Works.linkCutShort (h : s.Works t) (c : AttemptCause) : s.Works (t.linkCutShort c) :=
  .ite (fun _ => h.endSyncAll) fun _ => .ite (fun _ => h.failExchange c) fun _ => h.toIdle

theorem State.Works.linkBreakSent (h : s.Works t) : s.Works t.linkBreakSent := by
  refine h.checked _ (State.Works.toIdle (State.Works.endLineCommand ?_ _))
  exact .ite (fun _ => h.syncRecords) fun _ => h

theorem State.Works.linkSettled (h : s.Works t) : s.Works t.linkSettled := by
  have h1 : s.Works (match t.link.x.slot with | some k => t.endMessage k .ok | none => t) := by
    cases t.link.x.slot with
    | none => exact h
    | some k => exact h.endMessage k _
  exact h.checked _ (h1.unlessHalted h1.toIdle)

theorem State.Works.linkBreak (h : s.Works t) : s.Works t.linkBreak := by
  have h2 {u : State} (hu : s.Works u) : s.Works (if u.line.role = .member ∧ u.line.brkSync then
      u.checked (unsound u.listenUnsound .listenParity) fun v =>
        v.syncSlots.setFrx { v.syncSlots.frx with state := .hunt } else u) :=
    .ite (fun _ => hu.checked _ (hu.syncSlots.setFrx _)) fun _ => hu
  unfold State.linkBreak
  split
  · exact h.cancelGuard.unlessHalted (h2 h.cancelGuard)
  · exact (h.linkCutShort _).unlessHalted (h2 (h.linkCutShort _))
  · exact (h.failExchange _).unlessHalted (h2 (h.failExchange _))
  all_goals exact h.unlessHalted (h2 h)

theorem State.Works.linkOff (h : s.Works t) : s.Works t.linkOff := by
  unfold State.linkOff
  split
  · exact h
  · exact h.toIdle
  · exact h.cancelGuard
  · exact h.setLink _
  · exact h.failExchange _
  · exact h.setLink _

/-! ## The Command Queue -/

theorem State.Works.commandError (h : s.Works t) (e : CmdError) (tag : Byte) : s.Works (t.commandError e tag) :=
  (h.setCmd _).raise _

theorem State.Works.rejectHead (h : s.Works t) (c : Cmd) (e : CmdError) : s.Works (t.rejectHead c e) :=
  (h.commandError e _).endCommand _

theorem State.Works.invalidate (h : s.Works t) (c : Channel) : s.Works (t.invalidate c) :=
  h.setMap _ (fun hc => (List.length_filter_le _ _).trans hc)

theorem State.Works.invalidateAll (h : s.Works t) : s.Works t.invalidateAll := h.setMap _ (fun _ => Nat.zero_le _)

theorem State.Works.recordFence (h : s.Works t) : s.Works t.recordFence := h.setSlots _

theorem State.Keeps.resetStation (s : State) (a : LineAddr) : s.Keeps (s.resetStation a) :=
  ((Keeps.refl s).setStation a _).setPresence a _

theorem State.Works.ringStartActs (h : s.Works t) (c : Cmd) : s.Works (t.ringStartActs c) := by
  unfold State.ringStartActs
  split
  · exact (h.setRingState _ _).endCommand _
  · exact h.endCommand _
  all_goals exact h.rejectHead _ _

theorem State.Works.stopRunning (h : s.Works t) (n : Fin 4) : s.Works (t.stopRunning n) := by
  unfold State.stopRunning
  split
  · exact .ite (fun _ => (h.setRingState n _).setHead _) fun _ => (h.stopRing n).endCommand _
  split
  · exact h
  · exact .ite (fun _ => ((h.abandonSlot _).stopRing n).endCommand _) fun _ =>
      .ite (fun _ => (h.setRingState n _).setHead _) fun _ =>
        .ite (fun _ => h.checked _ (((h.setRingState n _).setHead _).giveOutcome _ _)) fun _ =>
          ((h.abandonSlot _).stopRing n).endCommand _

theorem State.Works.ringStopActs (h : s.Works t) (c : Cmd) : s.Works (t.ringStopActs c) := by
  unfold State.ringStopActs
  split
  · exact h.endCommand _
  · exact h.stopRunning _
  all_goals exact h.rejectHead _ _

theorem State.Works.beginHead (h : s.Works t) (c : Cmd) : s.Works (t.beginHead c) :=
  .ite (fun _ => h.endCommand _) fun _ => .ite (fun _ => (h.invalidate _).endCommand _) fun _ =>
    .ite (fun _ => h.invalidateAll.endCommand _) fun _ => .ite (fun _ => h.recordFence.setHead _) fun _ => h.setHead _

/-- A step of the head command; STATION RESET is the one that changes a record, and it is in the queue. -/
theorem State.Works.headStep (h : s.headStep = some t) : s.Works t := by
  have hs := Works.refl s
  unfold State.headStep at h
  split at h
  · cases h
  next c rest hq =>
    have hreset : s.Works (s.checked (unsound (!(s.station c.station).sound) .stationParity) fun v =>
        (v.resetStation c.station).endCommand .ok) :=
      hs.checked _ (((Keeps.resetStation s _).works_of_queue hq).endCommand _)
    split at h
    · split at h
      · cases h; exact hs.enterHalt _
      split at h
      · cases h; exact hs.beginHead c
      · cases h; exact hs.rejectHead c _
    · split at h
      · split at h
        · cases h
        · cases h; exact hreset
      split at h
      · split at h
        · cases h
        · cases h; exact hs.ringStartActs c
      split at h
      · cases h; exact hs.ringStopActs c
      · cases h
    · split at h
      · cases h; exact hs.endCommand _
      · cases h
    · split at h
      · cases h; exact hs.endCommand _
      · cases h
    · cases h

theorem State.Works.pump (h : s.Works t) (n : Nat) : s.Works (State.pump n t) := by
  induction n generalizing t with
  | zero => exact h
  | succ n ih =>
    refine .ite (fun _ => h) fun _ => ?_
    split
    · exact h
    next v hv => exact ih (h.trans (.headStep hv))

theorem State.Works.settle (h : s.Works t) : s.Works t.settle :=
  .ite (fun _ => h) fun _ => .ite (fun _ => (h.settleQuiet _).pump _) fun _ => ((h.settleQuiet _).pump _).noteBlocking

/-- A command joins the queue, if there is a place for it (R144). -/
theorem State.Keeps.enqueue (s : State) (c : Cmd) : s.Keeps (s.enqueue c) :=
  .ite
    (fun hc => { buffers := fun ⟨_, hb, hm⟩ => ⟨by simpa using hc, hb, hm⟩ })
    fun _ => ((Works.refl s).commandError _ _).toKeeps

theorem State.Works.roleRejects (h : s.Works t) : s.Works t.roleRejects := by
  unfold State.roleRejects
  split
  · exact h
  · exact .ite (fun _ => h.rejectHead _ _) fun _ => h

end Sys2Proof.Machine
end

section
/-! PROOFS. What the Frame Receiver, the line, the decision, staging, the drain and the releases keep. -/

namespace Sys2Proof.Machine

set_option Elab.async false

variable {s t u : State}

/-! ## The Frame Receiver -/

theorem State.Works.frxHunt (h : s.Works t) : s.Works t.frxHunt := (h.setFrx _).setRx _

theorem State.Works.frxDrop (h : s.Works t) : s.Works t.frxDrop :=
  .ite (fun _ => h.frxHunt.discardNotice) fun _ => h.frxHunt

theorem State.Works.frxTruncate (h : s.Works t) : s.Works t.frxTruncate :=
  State.Works.frxDrop (.ite (fun _ => h.bump _) fun _ => h)

theorem State.Works.formatViolation (h : s.Works t) : s.Works t.formatViolation :=
  State.Works.frxDrop (.ite (fun _ => h.bump _) fun _ => h)

theorem State.Works.frxBegin (h : s.Works t) (d : LineAddr) : s.Works (t.frxBegin d) :=
  .ite (fun _ => h.setFrx _) fun _ => h.setFrx _

theorem State.Works.headChar (h : s.Works t) (b : Byte) : s.Works (t.headChar b) := by
  unfold State.headChar
  refine State.Works.unlessHalted (h.headNotice _) (.ite (fun _ => ?_) fun _ => (h.headNotice _).frxBegin _)
  split
  · exact ((h.headNotice _).frxBegin _).formatViolation
  · exact ((h.headNotice _).frxBegin _).frxHunt

theorem State.Works.frxHeader (h : s.Works t) (f : HeaderField) (b : Byte) : s.Works (t.frxHeader f b) := by
  cases f with
  | source => exact .ite (fun _ => h.formatViolation) fun _ => h.setFrx _
  | control =>
    unfold State.frxHeader
    dsimp only
    split
    · exact h.formatViolation
    · exact .ite (fun _ => h.formatViolation) fun _ => h.setFrx _
  | port => exact .ite (fun _ => h.formatViolation) fun _ => h.setFrx _
  | length => exact .ite (fun _ => h.formatViolation) fun _ => h.setFrx _

theorem State.Works.frxValidate (h : s.Works t) (v : BitVec 16) : s.Works (t.frxValidate v) :=
  .ite (fun _ => (h.bump _).frxDrop) fun _ => .ite (fun _ => (h.bump _).frxDrop) fun _ =>
    .ite (fun _ => (h.bump _).frxDrop) fun _ => h.frxHunt.validFrame _

theorem State.Works.frxCheck (h : s.Works t) (hi : Option Byte) (b : Byte) : s.Works (t.frxCheck hi b) := by
  cases hi with
  | none => exact h.setFrx _
  | some c => exact h.frxValidate _

theorem State.Works.frxPass (h : s.Works t) (p : PassField) (b : Byte) : s.Works (t.frxPass p b) := by
  unfold State.frxPass
  split
  · exact h.setFrx _
  · split
    · exact h.frxHunt
    · exact h.setFrx _
    · exact h.setFrx _
  · exact h.setFrx _
  · exact .ite (fun _ => h.frxHunt) fun _ => h.setFrx _
  · exact .ite (fun _ => h.frxHunt) fun _ => h.setFrx _

theorem State.Works.frxChar (h : s.Works t) (b : Byte) (tag : Bool) : s.Works (t.frxChar b tag) := by
  refine .ite (fun _ => ?_) fun _ => ?_
  · have h1 : s.Works (if t.frx.state = .hunt then t else t.frxTruncate) :=
      .ite (fun _ => h) fun _ => h.frxTruncate
    exact h1.unlessHalted (h1.headChar b)
  · split
    · exact h
    · exact h.frxHeader _ b
    · exact h.setFrx _
    · exact h.frxCheck _ b
    · exact h.frxPass _ b

/-! ## Receiving -/

theorem State.Works.endStopBit (h : s.Works t) : s.Works t.endStopBit := .ite (fun _ => h.setRx _) fun _ => h

theorem State.Works.noteStart (h : s.Works t) : s.Works t.noteStart := .ite (fun _ => h.setLink _) fun _ => h

theorem State.Works.fallingEdge (h : s.Works t) : s.Works t.fallingEdge :=
  .ite (fun _ => h) fun _ => .ite (fun _ => h.setRx _) fun _ => (h.endStopBit.setRx _).noteStart

theorem State.Works.impliedEdge (h : s.Works t) : s.Works t.impliedEdge := .ite (fun _ => h) fun _ => h.fallingEdge

theorem State.Works.falseStart (h : s.Works t) : s.Works t.falseStart := by
  have h2 := h.impliedEdge.setRx { t.impliedEdge.rx with
    inChar := false, idle := some (t.impliedEdge.rx.idle.getD 0), brk := t.rx.brk }
  have h3 := State.Works.ite (s := s)
    (c := (t.impliedEdge.setRx { t.impliedEdge.rx with
      inChar := false, idle := some (t.impliedEdge.rx.idle.getD 0), brk := t.rx.brk }).rx.gap = some Config.gapLimit ∧
      t.impliedEdge.frx.state ≠ .hunt) (fun _ => h2.frxTruncate) fun _ => h2
  exact h3.unlessHalted h3.windowAfterChar

theorem State.Works.falseStartSeen (h : s.Works t) : s.Works t.falseStartSeen :=
  .ite (fun _ => h.falseStart) fun _ => h

theorem State.Works.framingError (h : s.Works t) : s.Works t.framingError := ((h.bump _).setRx _).frxDrop

theorem State.Works.goodChar (h : s.Works t) (c : RxChar) : s.Works (t.goodChar c) := by
  have h1 : s.Works (if c.noisy then t.bump .noise else t) := .ite (fun _ => h.bump _) fun _ => h
  exact (h1.setRx _).frxChar _ _

theorem State.Works.judgeChar (h : s.Works t) (c : RxChar) : s.Works (t.judgeChar c) := by
  refine .ite (fun _ => h.falseStart) fun _ => ?_
  have h1 : s.Works (if c.stop then t.impliedEdge.goodChar c else t.impliedEdge.framingError) :=
    .ite (fun _ => h.impliedEdge.goodChar c) fun _ => h.impliedEdge.framingError
  exact h1.unlessHalted h1.windowAfterChar

theorem State.Works.echoChar (h : s.Works t) (c : RxChar) : s.Works (t.echoChar c) := (h.setTx _).setRx _

theorem State.Works.charReceived (h : s.Works t) (c : RxChar) : s.Works (t.charReceived c) := by
  refine .ite (fun _ => h) fun _ => ?_
  split
  · exact h.judgeChar c
  · exact h.echoChar c
  · exact h

theorem State.Works.gapExpires (h : s.Works t) : s.Works t.gapExpires :=
  .ite (fun _ => h.endStopBit.frxTruncate) fun _ => h

theorem State.Works.idlePoint (h : s.Works t) : s.Works t.idlePoint :=
  .ite (fun _ => h) fun _ => .ite (fun _ => h.endStopBit) fun _ => .ite (fun _ => h.setRx _) fun _ => h

/-! ## The break detector -/

theorem State.Works.breakDrop (h : s.Works t) : s.Works t.breakDrop := .ite (fun _ => h.frxHunt) fun _ => h.frxDrop

theorem State.Works.breakFound (h : s.Works t) : s.Works t.breakFound := by
  have h2 := (((h.bump .breaks).raise .brk).setRx { t.rx with brk := .rearming }).breakDrop
  refine State.Works.unlessHalted (.ite (fun _ => h2.setTx _) fun _ => h2) (State.Works.linkBreak ?_)
  exact .ite (fun _ => h2.setTx _) fun _ => h2

theorem State.Works.breakDetected (h : s.Works t) : s.Works t.breakDetected :=
  .ite (fun _ => h.breakFound) fun _ => h

theorem State.Works.breakRearm (h : s.Works t) : s.Works t.breakRearm := .ite (fun _ => h.setRx _) fun _ => h

theorem State.Works.breakRunEnd (h : s.Works t) : s.Works t.breakRunEnd := .ite (fun _ => h.setRx _) fun _ => h

/-! ## Transmitting -/

theorem State.Works.markAttempted (h : s.Works t) : s.Works t.markAttempted := by
  unfold State.markAttempted
  split
  · exact h
  split
  · exact h
  · exact h.setSlot _ _

/-- While the controller works nothing is asked of the line, so LDE may rise there (R1). -/
theorem State.Works.startTx (h : s.Works t) (ha : t.awake = true) (x : LineTx) : s.Works (t.setTx x) :=
  h.trans { released := fun _ hn => absurd (ha.symm.trans hn) (by simp) }

/-- With no reply awaited the loss of a frame changes nothing but FRX and the receiver. -/
theorem State.frxDrop_of_not_awaiting (h : s.awaitingReply = false) : s.frxDrop = s.frxHunt := by
  refine (ite_eq_right_iff.mpr fun _ => if_neg ?_)
  rw [show s.frxHunt.awaitingReply = false from h]
  simp

theorem State.frxTruncate_awake (h : s.awaitingReply = false) : s.frxTruncate.awake = s.awake := by
  unfold State.frxTruncate
  split
  · rw [State.frxDrop_of_not_awaiting (s := s.bump .gap) h]; rfl
  · rw [State.frxDrop_of_not_awaiting h]; rfl

theorem State.Works.transmit (h : s.Works t) (ha : t.awake = true) (hw : t.awaitingReply = false) :
    s.Works t.transmit := by
  refine h.checked _ ?_
  have h1 : s.Works (if t.frx.state = .hunt then t else t.frxTruncate) :=
    .ite (fun _ => h) fun _ => h.frxTruncate
  have ha1 : (if t.frx.state = .hunt then t else t.frxTruncate).awake = true := by
    split
    · exact ha
    · exact (State.frxTruncate_awake hw).trans ha
  exact .ite (fun _ => ((h1.startTx ha1 _).setRx _).setLink _) fun _ =>
    (((h1.startTx ha1 _).setRx _).setLink _).markAttempted

theorem State.Works.transmissionStarts (h : s.Works t) (ha : t.awake = true) : s.Works t.transmissionStarts := by
  refine .ite (fun hc => h.transmit ha ?_) fun _ => h
  obtain ⟨hg, -⟩ := t.canTransmit_iff.mp hc
  simp [State.awaitingReply, hg]

theorem State.Works.txEnd (h : s.Works t) : s.Works t.txEnd := (h.setTx _ (.inr rfl)).setRx _

theorem State.Works.afterFrame {f : State → State} (h : s.Works t) (hf : s.Works (f t)) : s.Works (t.afterFrame f) := by
  have h1 : s.Works (if t.link.state = .sending then f t else t) := .ite (fun _ => hf) fun _ => h
  exact h1.unlessHalted h1.syncRx

theorem State.Works.frameStops (h : s.Works t) : s.Works t.frameStops :=
  .ite (fun _ => (h.bump _).txEnd.afterFrame ((h.bump _).txEnd.linkCutShort _)) fun _ => h

theorem State.Works.frameEnds (h : s.Works t) : s.Works t.frameEnds :=
  .ite (fun _ => .ite (fun _ => h.frameStops) fun _ => h.txEnd.afterFrame h.txEnd.linkFrameSent) fun _ => h

theorem State.Works.breakEnds (h : s.Works t) : s.Works t.breakEnds := by
  refine .ite (fun _ => ?_) fun _ => h
  have h2 := h.txEnd.setRx { t.txEnd.rx with brk := .rearming }
  exact State.Works.unlessHalted (.ite (fun _ => h2.linkBreakSent) fun _ => h2)
    (State.Works.syncRx (.ite (fun _ => h2.linkBreakSent) fun _ => h2))

theorem State.Works.endsAfterBreak (h : s.Works t) : s.Works t.endsAfterBreak :=
  .ite (fun _ => h.txEnd.syncRx) fun _ => h

/-! ## Timers -/

theorem State.Works.broadcastSettles (h : s.Works t) : s.Works t.broadcastSettles :=
  .ite (fun _ => h.linkSettled) fun _ => h

theorem State.Works.pauseEnds (h : s.Works t) : s.Works t.pauseEnds := h.setLink _

theorem State.Works.anchorLost (h : s.Works t) : s.Works t.anchorLost := .ite (fun _ => (h.setLink _).raise _) fun _ => h

theorem State.Works.delayExpires (h : s.Works t) : s.Works t.delayExpires := .ite (fun _ => h.moderationExpire) fun _ => h

/-! ## The decision -/

theorem State.Works.setPoll (h : s.Works t) (p : PollList)
    (he : p.entries = t.poll.entries := by rfl) (hl : p.len = t.poll.len := by rfl) : s.Works (t.setPoll p) := by
  have hsame : t.SameConfig (t.setPoll p) :=
    ⟨rfl, he, hl, rfl, fun _ => ⟨rfl, rfl⟩, rfl, rfl, fun _ => ⟨rfl, rfl⟩, rfl, rfl, rfl, rfl, rfl, rfl, rfl, rfl,
      fun _ _ _ => rfl⟩
  exact h.trans { legal := hsame.legal, config := hsame }

/-- A step of the scan moves PTR and ROUND and keeps the list (R72). -/
theorem PollList.advance_list (p : PollList) : p.advance.entries = p.entries ∧ p.advance.len = p.len := by
  unfold PollList.advance
  split
  · exact ⟨rfl, rfl⟩
  · exact ⟨rfl, rfl⟩

theorem State.Works.takeDecision (h : s.Works t) (x : Exchange) : s.Works (t.takeDecision x) := h.setLink _

theorem State.Works.setOutbound (h : s.Works t) (n : Nat) : s.Works (t.setOutbound n) := h.setLink _

theorem State.Works.takeOutbound (h : s.Works t) (k : Fin 2) : s.Works (t.takeOutbound k) := by
  unfold State.takeOutbound
  split
  · exact h
  · exact h.checked _ ((h.takeDecision _).setOutbound _)

theorem State.Works.scan (h : s.Works t) (n : Nat) : s.Works (State.scan n t).1 := by
  induction n generalizing t with
  | zero => exact h.setLink _
  | succ n ih =>
    have h1 := h.setPoll t.poll.advance t.poll.advance_list.1 t.poll.advance_list.2
    unfold State.scan
    dsimp only
    split
    · exact ih h1
    split
    · exact h.enterHalt _
    split
    · exact ih h1
    · exact h1

theorem State.Works.pollScan (h : s.Works t) : s.Works t.pollScan.1 := by
  unfold State.pollScan
  split
  · exact h.scan _
  · exact h

theorem State.Works.takePoll (h : s.Works t) (a : LineAddr) : s.Works (t.takePoll a) :=
  (h.takeDecision _).setOutbound _

theorem State.Works.chooseTraffic (h : s.Works t) : s.Works t.chooseTraffic := by
  unfold State.chooseTraffic
  split
  next k _ =>
    refine .ite (fun _ => h.takeOutbound k) fun _ => ?_
    split
    next v a he => exact State.Works.takePoll (by simpa [he] using h.pollScan) a
    next v he =>
      have hv : s.Works v := by simpa [he] using h.pollScan
      exact hv.unlessHalted (hv.takeOutbound k)
  next =>
    split
    next v a he => exact State.Works.takePoll (by simpa [he] using h.pollScan) a
    next v he => simpa [he] using h.pollScan

theorem State.Works.decision (h : s.Works t) : s.Works t.decision := by
  refine .ite (fun _ => ?_) fun _ => h
  split
  · exact h.takeDecision _
  · exact h.checked _ h.chooseTraffic

/-! ## Doze and the wake detector -/

/-- In Doze the receiver is wanted no more (R5, R168). -/
theorem State.syncRx_setPower_doze (s : State) :
    (s.setPower .doze).syncRx = if s.rx.active then s.dropRx.setPower .doze else s.setPower .doze := by
  have hw : (s.setPower .doze).rxWanted = false := by simp [State.rxWanted, State.awake, State.setPower]
  unfold State.syncRx
  rw [hw]
  cases ha : s.rx.active with
  | false => exact if_pos ha.symm
  | true => exact if_neg fun he => by rw [show (s.setPower .doze).rx.active = true from ha] at he; cases he

theorem State.Works.dozeEntry (h : s.Works t) : s.Works t.dozeEntry := by
  refine .ite (fun hc => State.Works.setWakeDet ?_ _) fun _ => h
  obtain ⟨-, -, -, -, -, -, hoff⟩ := t.quiet_iff.mp (Bool.and_eq_true_iff.mp hc).2
  have hdoze (v : State) (hv : v.tx.phase = .off) (hr : v.rx.active = false) : v.Works (v.setPower .doze) :=
    { released := fun _ _ => ⟨by simp [State.lde, State.setPower, hv], hr⟩ }
  rw [State.syncRx_setPower_doze]
  split
  · exact h.dropRx.trans (hdoze _ hoff rfl)
  next hr => exact h.trans (hdoze _ hoff (Bool.eq_false_iff.mpr hr))

/-- A controller in Run or Doze-Pending that does not work is held, and one that is held works in no power state. -/
theorem State.Works.setPower (h : s.Works t) {p : Power} (hp : p = .run ∨ p = .dozePending) :
    s.Works (t.setPower p) :=
  h.trans
    { released := fun hl hn => hl <| by
        have hheld : t.held = true := by
          by_contra hf
          have hf : (t.setPower p).held = false := Bool.eq_false_iff.mpr hf
          exact absurd ((State.awake_iff _).mpr ⟨hf, hp⟩) (by simp [hn])
        simp [State.awake, hheld] }

theorem State.Works.wake (h : s.Works t) : s.Works t.wake := by
  have h1 := (h.setPower (.inl rfl)).syncRx.setWakeDet .armed
  exact .ite (fun _ => h1.enableLink) fun _ => h1

theorem State.Works.wakeWrite (h : s.Works t) : s.Works t.wakeWrite := .ite (fun _ => h.wake) fun _ => h

theorem State.Works.wakeHead (h : s.Works t) (c : RxChar) : s.Works (t.wakeHead c) :=
  .ite (fun _ => h.wake) fun _ => .ite (fun _ => h.setWakeDet _) fun _ => h

theorem State.Works.wakeBreakSeen (h : s.Works t) : s.Works t.wakeBreakSeen :=
  .ite (fun _ => h.wake.breakFound) fun _ => h

/-! ## The drain -/

theorem State.Works.drainStart (h : s.Works t) : s.Works t.drainStart :=
  .ite (fun _ => h.checked _ (h.setRxp _)) fun _ => h

theorem State.Works.rxFault (h : s.Works t) (k : FaultKind) (a : Word) : s.Works (t.rxFault k a) := (h.setRxp _).post _

theorem State.Works.drainTo (h : s.Works t) (d : Drain) (p : DrainStep) : s.Works (t.drainTo d p) := h.setRxp _

theorem State.Works.withDrain {f : Drain → RxFrame → State} (h : s.Works t) (hf : ∀ d r, s.Works (f d r)) :
    s.Works (t.withDrain f) := by
  unfold State.withDrain
  split
  · exact hf _ _
  · exact h

theorem State.Works.rxDescDone (h : s.Works t) (r : DescRead) : s.Works (t.rxDescDone r) := by
  refine h.withDrain fun d f => ?_
  split
  · exact h.rxFault _ _
  · exact .ite (fun _ => h.rxFault _ _) fun _ =>
      h.checked _ (.ite (fun _ => h.drainTo _ _) fun _ => h.drainTo _ _)
  · exact h

theorem State.Works.rxPayloadDone (h : s.Works t) (n : Nat) (r : WriteResult) : s.Works (t.rxPayloadDone n r) := by
  refine h.withDrain fun d f => ?_
  split
  · exact h.rxFault _ _
  · exact .ite (fun _ => h) fun _ => h.checked _ (.ite (fun _ => h.drainTo _ _) fun _ => h.drainTo _ _)
  · exact h

theorem State.Works.word2Done (h : s.Works t) (r : WriteResult) : s.Works (t.word2Done r) := by
  refine h.withDrain fun d f => ?_
  split
  · exact h.rxFault _ _
  · exact h.checked _ (h.drainTo _ _)
  · exact h

theorem State.Works.drainEnds (h : s.Works t) : s.Works t.drainEnds :=
  (h.setRxp _ (fun hb => by simpa using Nat.le_succ_of_le hb) (.inr rfl)).raise _

theorem State.Works.word3Done (h : s.Works t) (r : WriteResult) : s.Works (t.word3Done r) := by
  unfold State.word3Done
  split
  · split
    · exact h.rxFault _ _
    · exact h.drainEnds
    · exact h
  · exact h

/-! ## Releases -/

theorem State.Works.releaseStaging (h : s.Works t) (a : Action) (n : Fin 4) (f : FaultRecord) :
    s.Works (t.releaseStaging a n f) := by
  cases a with
  | resume => exact h.setRingState n _
  | skip => exact (h.setRingState n _).join _
  | hold => exact h.stopRing n

theorem State.Works.releaseFinish (h : s.Works t) (a : Action) (n : Fin 4) : s.Works (t.releaseFinish a n) := by
  unfold State.releaseFinish
  split
  · exact h
  split
  · exact h
  refine h.checked _ ?_
  cases a with
  | resume => exact (h.setRingState n _).setSlot _ _
  | skip => exact (h.setRingState n _).joinMessage _ _
  | hold => exact (h.setRingState n _).joinMessage _ _

theorem State.Works.releaseRx (h : s.Works t) (a : Action) : s.Works (t.releaseRx a) := by
  cases a with
  | resume => exact h.setRxp _
  | skip => exact (h.setRxp _ (fun hb => by simpa using Nat.le_succ_of_le hb)).bump _
  | hold => exact h.setRxp _

theorem State.Works.releaseCq (h : s.Works t) (a : Action) : s.Works (t.releaseCq a) := by
  cases a with
  | skip => exact h.discardHead
  | resume => exact h
  | hold => exact h

theorem State.Works.sourceActs (h : s.Works t) (a : Action) (f : FaultRecord) : s.Works (t.sourceActs a f) := by
  unfold State.sourceActs
  split
  · exact h
  · exact h.releaseCq a
  · exact h.releaseRx a
  · exact .ite (fun _ => h.releaseFinish a _) fun _ => h.releaseStaging a _ f

theorem State.Works.releaseFault (h : s.Works t) (a : Action) : s.Works (t.releaseFault a) := by
  unfold State.releaseFault
  split
  · exact h.releaseError
  · exact .ite (fun _ => (h.sourceActs a _).unlessHalted (h.sourceActs a _).nextFault) fun _ => h.releaseError

/-! ## Staging -/

theorem State.Works.stagingStart (h : s.Works t) : s.Works t.stagingStart := by
  refine .ite (fun _ => h) fun _ => ?_
  split
  · exact h.setSlot _ _
  · exact h

theorem State.Works.stagingFault (h : s.Works t) (k : Fin 2) (m : Message) (f : FaultKind) (p : FaultPhase)
    (c : Channel) (a : Word) : s.Works (t.stagingFault k m f p c a) := ((h.setSlot k _).setRingState _ _).post _

theorem State.Works.beginLoad (h : s.Works t) (k : Fin 2) (m : Message) : s.Works (t.beginLoad k m) :=
  .ite (fun _ => h.setSlot k _) fun _ => h.setSlot k _

theorem State.Works.beginMark (h : s.Works t) (k : Fin 2) (m : Message) (w : Working) : s.Works (t.beginMark k m w) :=
  .ite (fun _ => h.beginLoad k _) fun _ => h.setSlot k _

theorem State.Works.checkCopy (h : s.Works t) (k : Fin 2) (m : Message) (e : MapEntry) (a : Word) (b : Bool) :
    s.Works (t.checkCopy k m e a b) := by
  unfold State.checkCopy
  split
  · exact h.stagingFault _ _ _ _ _ _
  · exact .ite (fun _ => h.stagingFault _ _ _ _ _ _) fun _ =>
      .ite (fun _ => h.stagingFault _ _ _ _ _ _) fun _ => h.beginMark k m _

theorem State.Works.beginWalk (h : s.Works t) (k : Fin 2) (m : Message) : s.Works (t.beginWalk k m) :=
  (h.setMap _).setSlot k _

theorem State.Works.cacheToHead (h : s.Works t) (m : ChannelMap) (hb : m.base = t.map.base) (hl : m.len = t.map.len)
    (e : CacheEntry) : s.Works (t.setMap (m.toHead e)) :=
  h.setMap _ (fun _ => ChannelMap.length_toHead m e) hb hl

theorem State.Works.translate (h : s.Works t) (k : Fin 2) (m : Message) : s.Works (t.translate k m) := by
  refine .ite (fun _ => h.stagingFault _ _ _ _ _ _) fun _ => ?_
  split
  · exact h.beginWalk k m
  · exact .ite (fun _ => (h.cacheToHead _ rfl rfl _).checkCopy k m _ _ _) fun _ =>
      (h.cacheParity _ _ _).unlessHalted ((h.cacheParity _ _ _).beginWalk k m)

theorem State.Works.withPhase {f : State → Fin 2 → Message → State} (h : s.Works t) (p : SlotPhase)
    (hf : ∀ k m, s.Works (f t k m)) : s.Works (t.withPhase p f) := by
  unfold State.withPhase
  split
  · exact h
  split
  · exact h
  · exact h.checked _ (hf _ _)

theorem State.Works.fetchDone (h : s.Works t) (r : DescRead) : s.Works (t.fetchDone r) := by
  refine h.withPhase _ fun k m => ?_
  cases r with
  | error => exact h.stagingFault _ _ _ _ _ _
  | data w0 w1 w2 w3 => exact .ite (fun _ => h.stagingFault _ _ _ _ _ _) fun _ => h.translate k _

theorem State.Works.walkDone (h : s.Works t) (r : EntryRead) : s.Works (t.walkDone r) := by
  refine h.withPhase _ fun k m => ?_
  split
  · exact h
  next w _ =>
    have h1 := h.setMap { t.map with walk := none }
    cases r with
    | error => exact h1.stagingFault _ _ _ _ _ _
    | data b =>
      refine .ite (fun _ => h1.stagingFault _ _ _ _ _ _) fun _ => State.Works.checkCopy ?_ k m _ _ _
      exact .ite (fun _ => h1.cacheToHead _ rfl rfl _) fun _ => h1

theorem State.Works.markDone (h : s.Works t) (r : WriteResult) : s.Works (t.markDone r) := by
  refine h.withPhase _ fun k m => ?_
  split
  · exact h.stagingFault _ _ _ _ _ _
  · exact h
  · exact State.Works.beginLoad (.ite (fun _ => h.updateMap _ _) fun _ => h) k _

theorem State.Works.payloadDone (h : s.Works t) (r : PayloadRead) : s.Works (t.payloadDone r) := by
  refine h.withPhase _ fun k m => ?_
  cases r with
  | error => exact h.stagingFault _ _ _ _ _ _
  | data bytes => exact .ite (fun _ => h.setSlot k _) fun _ => h.setSlot k _

theorem State.Works.finishFault (h : s.Works t) (k : Fin 2) (m : Message) : s.Works (t.finishFault k m) :=
  ((h.setSlot k _).setRing _ _).post _

theorem State.Works.errWriteDone (h : s.Works t) (k : Fin 2) (r : WriteResult) : s.Works (t.errWriteDone k r) := by
  unfold State.errWriteDone
  split
  · exact h
  · refine .ite (fun _ => h.checked _ ?_) fun _ => h
    cases r with
    | ok => exact h.finishDone k _
    | error => exact h.finishFault k _

end Sys2Proof.Machine
end

section
/-! PROOFS. What the registers, the resets, one bit time and every command keep, and the invariants of every step. -/

namespace Sys2Proof.Machine

set_option Elab.async false

variable {s t u : State}

/-! ## The shape of an event -/

theorem State.Works.due (h : s.Works t) : s.Works t.due :=
  .ite (fun _ => h.recordIssue.drainStart.stagingStart.decision.dozeEntry) fun _ => h

theorem State.Works.event {f : State → State} (hf : ∀ v : State, v.awake = true → v.Works (f v)) :
    s.Works (s.event f) :=
  .ite (fun ha => ((Works.refl s).due.trans (hf _ ha)).settle) fun _ => (Works.refl s).due

theorem State.Works.atWakeDetector {f : State → State} (hf : ∀ v : State, v.Works (f v)) :
    s.Works (s.atWakeDetector f) :=
  .ite (fun _ => ((Works.refl s).due.trans (hf _)).settle) fun _ => (Works.refl s).due

theorem State.Works.lineEvent {f g : State → State} (hf : ∀ v : State, v.Works (f v)) (hg : ∀ v : State, v.Works (g v)) :
    s.Works (s.lineEvent f g) := .ite (fun _ => .atWakeDetector hg) fun _ => .event fun v _ => hf v

theorem State.Works.dmaEvent {f : State → State} (x : Txn) (k : DmaKind) (hf : ∀ v : State, v.Works (f v)) :
    s.Works (s.dmaEvent x k f) := by
  have hd := (Works.refl s).due
  exact .ite (fun _ => hd.orphanDone k) fun _ => .ite (fun _ => ((hd.trans (hf _)).finished k).settle) fun _ => hd

theorem State.Keeps.access {f : State → State} (hf : ∀ v : State, v.Keeps (f v)) : s.Keeps (s.access f) :=
  .ite (fun _ => ((Works.refl s).due.toKeeps.trans (hf _)).trans (Works.refl _).settle.toKeeps) fun _ =>
    (Works.refl s).due.toKeeps

theorem State.Preserves.access {f : State → State} (hf : ∀ v : State, v.Preserves (f v)) : s.Preserves (s.access f) :=
  .ite (fun _ => ((Works.refl s).due.toPreserves.trans (hf _)).trans (Works.refl _).settle.toPreserves) fun _ =>
    (Works.refl s).due.toPreserves

theorem State.Keeps.accessInHalt {f : State → State} (hf : ∀ v : State, v.Keeps (f v)) : s.Keeps (s.accessInHalt f) :=
  .ite (fun _ => (Works.refl s).due.toKeeps) fun _ => (Works.refl s).due.toKeeps.trans (hf _)

theorem State.Preserves.accessInHalt {f : State → State} (hf : ∀ v : State, v.Preserves (f v)) :
    s.Preserves (s.accessInHalt f) :=
  .ite (fun _ => (Works.refl s).due.toPreserves) fun _ => (Works.refl s).due.toPreserves.trans (hf _)

/-! ## Register writes that configure nothing -/

theorem State.Keeps.writeLinkctl (s : State) (en pollen : Bool) : s.Keeps (s.writeLinkctl en pollen) := by
  have hp : s.Works (s.writePollen pollen) :=
    .ite (fun _ => .refl s) fun _ =>
      .ite (fun _ => ((Works.refl s).setPoll _).setLink _) fun _ => (Works.refl s).setLink _
  refine Works.toKeeps (.ite (fun _ => ?_) fun _ => ?_)
  · exact .ite (fun _ => (hp.setLink _).enableLink) fun _ => hp.setLink _
  · exact .ite (fun _ => ((hp.setLink _).setWakeDet _).linkOff) fun _ => hp

theorem doorbell_lt {w : Nat} {v : Word} {k : BitVec 4} (h : v.toNat < sizeOf2 k) :
    (v.extractLsb' 0 w).toNat < sizeOf2 k := by
  refine lt_of_le_of_lt ?_ h
  simpa using Nat.mod_le _ _

theorem State.Keeps.writeTxprod (s : State) (n : Fin 4) (v : Word) : s.Keeps (s.writeTxprod n v) := by
  have hw := (Works.refl s).wakeWrite
  refine .ite (fun hv => hw.toKeeps.trans ?_) fun _ => (hw.raise _).toKeeps
  generalize s.wakeWrite = w at hv
  have hring (j : Fin 4) : ((w.setRing n { w.ring n with prod := v.extractLsb' 0 8 }).ring j).base = (w.ring j).base ∧
      ((w.setRing n { w.ring n with prod := v.extractLsb' 0 8 }).ring j).size = (w.ring j).size := by
    rw [State.ring_setRing]
    split
    next e => exact e ▸ ⟨rfl, rfl⟩
    next => exact ⟨rfl, rfl⟩
  have hsame : w.SameConfig (w.setRing n { w.ring n with prod := v.extractLsb' 0 8 }) :=
    ⟨rfl, rfl, rfl, rfl, fun _ => ⟨rfl, rfl⟩, rfl, rfl, hring, rfl, rfl, rfl, rfl, rfl, rfl, rfl, rfl, fun _ _ _ => rfl⟩
  refine { legal := hsame.legal, config := hsame, indices := ?_ }
  rintro ⟨hr, hrest⟩
  refine ⟨fun j => ?_, hrest⟩
  rw [State.ring_setRing]
  split
  · exact ⟨doorbell_lt hv, (hr n).2⟩
  · exact hr j

theorem State.Keeps.writeRxprod (s : State) (v : Word) : s.Keeps (s.writeRxprod v) := by
  have hw := (Works.refl s).wakeWrite
  refine .ite (fun hv => hw.toKeeps.trans ?_) fun _ => (hw.raise _).toKeeps
  exact { indices := fun ⟨hr, _, hc, hq⟩ => ⟨hr, doorbell_lt hv, hc, hq⟩ }

theorem State.Keeps.writeCqhead (s : State) (v : Word) : s.Keeps (s.writeCqhead v) := by
  have hw := (Works.refl s).wakeWrite
  refine .ite (fun hv => hw.toKeeps.trans ?_) fun _ => (hw.raise _).toKeeps
  exact { indices := fun ⟨hr, hp, hc, _, ht⟩ => ⟨hr, hp, hc, doorbell_lt hv, ht⟩ }

theorem State.Keeps.writeCmd (s : State) (c : Cmd) : s.Keeps (s.writeCmd c) :=
  (Works.refl s).wakeWrite.toKeeps.trans (.enqueue _ c)

theorem State.Keeps.writeStnchg (s : State) (m : Fin 4) (v : Word) : s.Keeps (s.writeStnchg m v) := {}
theorem State.Keeps.writeGstat (s : State) (v : Word) : s.Keeps (s.writeGstat v) := {}
theorem State.Keeps.writeCmdstat (s : State) (v : Word) : s.Keeps (s.writeCmdstat v) := {}
theorem State.Keeps.writeRxctl (s : State) (en : Bool) : s.Keeps (s.writeRxctl en) := {}
theorem State.Keeps.writeIntstat (s : State) (v : Word) : s.Keeps (s.writeIntstat v) := {}
theorem State.Keeps.clearCounter (s : State) (c : Counter) : s.Keeps (s.clearCounter c) := {}

theorem State.Keeps.readChecked (s : State) (v : Word) (bad : Bool) (c : HaltCause) : s.Keeps (s.readChecked v bad c) := by
  refine .ite (fun _ => ?_) fun _ => {}
  have h1 : s.Works { s with readData := Config.haltedReadData s.freeIndex, freeIndex := s.freeIndex + 1 } := {}
  exact (h1.enterHalt c).toKeeps

/-! ## Resets -/

theorem State.reset_meets : State.reset.ConfigLegal ∧ State.reset.IndicesFit := by
  refine ⟨⟨?_, ?_, ?_, ?_, fun n => ?_, ?_⟩, fun n => ?_, ?_⟩
  · decide
  · decide
  · decide
  · decide
  · simp [State.ring, State.reset]
  · decide
  · simp [State.ring, State.reset, sizeOf2]
  · decide

theorem freshRecords_reserved : freshRecords[0] = reservedRecord ∧ freshRecords[127] = reservedRecord := by
  simp [freshRecords]

theorem keptRecords_reserved (r : Vector Station 128) :
    (keptRecords r)[0] = reservedRecord ∧ (keptRecords r)[127] = reservedRecord := by
  simp [keptRecords]

theorem State.station_softReset (s : State) {a : LineAddr} (h0 : a ≠ 0) (h127 : a ≠ 127) :
    s.softReset.station a = { accept := (s.station a).accept } := by
  have h0 : a.toNat ≠ 0 := fun e => h0 (BitVec.eq_of_toNat_eq (y := 0#7) e)
  have h127 : a.toNat ≠ 127 := fun e => h127 (BitVec.eq_of_toNat_eq (y := 127#7) e)
  simp [State.softReset, State.station, keptRecords, Ne.symm h0, Ne.symm h127]

theorem State.lsn_softReset (s : State) (k : Fin 4) : s.softReset.lsn k = (s.lsn k).kept := Vector.getElem_map _ k.isLt

theorem State.ring_softReset (s : State) (n : Fin 4) : s.softReset.ring n = (s.ring n).kept := Vector.getElem_map _ n.isLt

theorem State.Keeps.softReset (s : State) : s.Keeps s.softReset := by
  have hsame : s.SameConfig s.softReset :=
    ⟨rfl, rfl, rfl, rfl, fun k => by rw [State.lsn_softReset]; exact ⟨rfl, rfl⟩, rfl, rfl,
      fun n => by rw [State.ring_softReset]; exact ⟨rfl, rfl⟩, rfl, rfl, rfl, rfl, rfl, rfl, rfl, rfl,
      fun a h0 h1 => by rw [State.station_softReset s h0 h1]⟩
  have hpos (k : BitVec 4) : 0 < sizeOf2 k := Nat.two_pow_pos _
  exact
    { released := fun _ _ => ⟨rfl, rfl⟩
      buffers := fun _ => ⟨Nat.zero_le _, Nat.zero_le _, Nat.zero_le _⟩
      legal := hsame.legal
      indices := fun _ =>
        ⟨fun n => by rw [State.ring_softReset]; exact ⟨hpos _, hpos _⟩, hpos _, hpos _, hpos _, hpos _⟩
      reserved := fun _ => keptRecords_reserved _
      config := hsame }

/-- A power-on or hard reset, whatever it makes of the global registers (R165). -/
theorem State.Preserves.fullReset (s : State) (c : HaltCause) (g : Global) : s.Preserves ((s.fullReset c).setGlb g) where
  released _ _ := ⟨rfl, rfl⟩
  buffers _ := ⟨Nat.zero_le _, Nat.zero_le _, Nat.zero_le _⟩
  legal _ := State.reset_meets.1
  indices _ := State.reset_meets.2
  reserved _ := freshRecords_reserved

/-- A controller that works while it is held would work without the hold. -/
theorem State.Keeps.holdEnd (s : State) (src : HoldSource) : s.Keeps (s.holdEnd src) := by
  cases src with
  | powerOn =>
    exact
      { released := fun hl hn => hl <| by
          simp only [State.awake, State.held, State.holdEnd, State.setGlb_glb, Bool.false_or] at hn ⊢
          cases s.glb.porHeld
          · exact hn
          · rfl }
  | nReset =>
    exact
      { released := fun hl hn => hl <| by
          simp only [State.awake, State.held, State.holdEnd, State.setGlb_glb, Bool.or_false] at hn ⊢
          cases s.glb.nrstHeld
          · rwa [Bool.or_false]
          · rw [Bool.or_true]; rfl }

/-! ## Register writes that configure -/

theorem State.Preserves.setIchk (s : State) (b : Bool) : s.Preserves (s.setGlb { s.glb with ichk := b }) := {}

theorem State.Preserves.dozeRequest (s : State) (b : Bool) : s.Preserves (s.dozeRequest b) :=
  .ite (fun _ => (Preserves.setIchk s b).trans ((Works.refl _).setPower (.inr rfl)).dozeEntry.toPreserves) fun _ =>
    .setIchk s b

theorem State.Preserves.dozeCancel (s : State) (b : Bool) : s.Preserves (s.dozeCancel b) := by
  have hw := (Works.refl s).wakeWrite
  have h2 : s.Works (if s.wakeWrite.glb.power = .dozePending then s.wakeWrite.setPower .run else s.wakeWrite) :=
    .ite (fun _ => hw.setPower (.inl rfl)) fun _ => hw
  exact h2.toPreserves.trans (.setIchk _ b)

theorem State.Preserves.lockable {f : State → State} (locked : Bool) (hf : s.Preserves (f s)) :
    s.Preserves (s.lockable locked f) := .ite (fun _ => (Works.refl s).lockedWrite.toPreserves) fun _ => hf

theorem storedDiv_le (v : Word) : 4 ≤ (storedDiv v).toNat := by
  unfold storedDiv
  split
  · decide
  · omega

theorem storedLen_le (v : Word) : (storedLen v).toNat ≤ 32 := by
  unfold storedLen
  split
  · decide
  · omega

theorem storedMapLen_le (v : Word) : (storedMapLen v).toNat ≤ 4096 := by
  unfold storedMapLen
  split
  · decide
  · omega

theorem clampRingSize_bounds (v : Word) : 2 ≤ (clampRingSize v).toNat ∧ (clampRingSize v).toNat ≤ 8 := by
  unfold clampRingSize
  dsimp only
  split
  · decide
  split
  · decide
  · omega

theorem clampQueueSize_bounds (v : Word) : 4 ≤ (clampQueueSize v).toNat ∧ (clampQueueSize v).toNat ≤ 10 := by
  unfold clampQueueSize
  dsimp only
  split
  · decide
  split
  · decide
  · omega

theorem storedBase_aligned (v : Word) : storedBase v &&& 15 = 0 := by
  rw [storedBase, BitVec.and_assoc]
  exact BitVec.and_zero

theorem State.Preserves.writeLdiv (s : State) (v : Word) : s.Preserves (s.writeLdiv v) :=
  .lockable _ { legal := fun ⟨_, hrest⟩ => ⟨storedDiv_le v, hrest⟩ }

theorem State.Preserves.writeLcfg (s : State) (v : Word) : s.Preserves (s.writeLcfg v) := by
  refine .lockable _ ?_
  have h1 : s.Preserves (s.setLine { s.line with
      role := roleOf (v.getLsbD 0), stop2 := v.getLsbD 1, brkSync := v.getLsbD 2 }) := {}
  exact .ite (fun _ => h1) fun _ => h1.trans (Works.refl _).roleRejects.toPreserves

theorem State.Preserves.writeLtime (s : State) (v : Word) : s.Preserves (s.writeLtime v) := .lockable _ {}
theorem State.Preserves.writeLlim (s : State) (v : Word) : s.Preserves (s.writeLlim v) := .lockable _ {}
theorem State.Preserves.writePlist (s : State) (i : BitVec 5) (v : Word) : s.Preserves (s.writePlist i v) :=
  .lockable _ {}
theorem State.Preserves.writeLsn (s : State) (k : Fin 4) (v : Word) : s.Preserves (s.writeLsn k v) := .lockable _ {}
theorem State.Preserves.writeStnsel (s : State) (v : Word) : s.Preserves (s.writeStnsel v) := {}
theorem State.Preserves.writeCqmod (s : State) (v : Word) : s.Preserves (s.writeCqmod v) := {}
theorem State.Preserves.writeInten (s : State) (v : Word) : s.Preserves (s.writeInten v) := {}
theorem State.Preserves.writeStndat (s : State) (v : Word) : s.Preserves (s.writeStndat v) := .setStation s _ _

theorem State.Preserves.writePlctl (s : State) (v : Word) : s.Preserves (s.writePlctl v) :=
  .lockable _ { legal := fun ⟨hd, _, hrest⟩ => ⟨hd, storedLen_le v, hrest⟩ }

theorem State.Preserves.writeMapbase (s : State) (v : Word) : s.Preserves (s.writeMapbase v) where
  legal := fun ⟨hd, hl, hm, _, hrest⟩ =>
    ⟨hd, hl, hm, by rw [State.writeMapbase, State.setMap_map, BitVec.and_assoc]; exact BitVec.and_zero, hrest⟩

theorem State.Preserves.writeMaplen (s : State) (v : Word) : s.Preserves (s.writeMaplen v) where
  legal := fun ⟨hd, hl, _, hrest⟩ => ⟨hd, hl, storedMapLen_le v, hrest⟩

/-- A ring replaced by one whose registers are legal and whose indices fit. -/
theorem State.Preserves.setRing (s : State) (n : Fin 4) (r : Ring)
    (hl : s.ConfigLegal → 2 ≤ r.size.toNat ∧ r.size.toNat ≤ 8 ∧ r.base &&& 15 = 0)
    (hi : s.IndicesFit → r.prod.toNat < sizeOf2 r.size ∧ r.cons.toNat < sizeOf2 r.size) : s.Preserves (s.setRing n r) where
  legal := by
    rintro ⟨hd, hlen, hm, hb, hr, hrest⟩
    refine ⟨hd, hlen, hm, hb, fun j => ?_, hrest⟩
    rw [State.ring_setRing]
    split
    · exact hl ⟨hd, hlen, hm, hb, hr, hrest⟩
    · exact hr j
  indices := by
    rintro ⟨hr, hrest⟩
    refine ⟨fun j => ?_, hrest⟩
    rw [State.ring_setRing]
    split
    · exact hi ⟨hr, hrest⟩
    · exact hr j

theorem State.Preserves.writeTxbase (s : State) (n : Fin 4) (v : Word) : s.Preserves (s.writeTxbase n v) :=
  .lockable _ <| .setRing s n _
    (fun ⟨_, _, _, _, hr, _⟩ => ⟨(hr n).1, (hr n).2.1, storedBase_aligned v⟩) fun ⟨hr, _⟩ => hr n

theorem State.Preserves.writeTxsize (s : State) (n : Fin 4) (v : Word) : s.Preserves (s.writeTxsize n v) := by
  have hpos : 0 < sizeOf2 (clampRingSize v) := Nat.two_pow_pos _
  have h1 := Preserves.setRing s n { s.ring n with size := clampRingSize v, prod := 0, cons := 0 }
    (fun ⟨_, _, _, _, hr, _⟩ => ⟨(clampRingSize_bounds v).1, (clampRingSize_bounds v).2, (hr n).2.2⟩)
    fun _ => ⟨hpos, hpos⟩
  exact .lockable _ (h1.trans {})

theorem State.Preserves.writeRxbase (s : State) (v : Word) : s.Preserves (s.writeRxbase v) :=
  .lockable _
    { legal := fun ⟨hd, hlen, hm, hb, hr, h2, h8, _, hq⟩ => ⟨hd, hlen, hm, hb, hr, h2, h8, storedBase_aligned v, hq⟩ }

theorem State.Preserves.writeRxsize (s : State) (v : Word) : s.Preserves (s.writeRxsize v) := by
  have hpos : 0 < sizeOf2 (clampRingSize v) := Nat.two_pow_pos _
  obtain ⟨hlo, hhi⟩ := clampRingSize_bounds v
  exact .lockable _
    { legal := fun ⟨hd, hlen, hm, hb, hr, _, _, ha, hq⟩ => ⟨hd, hlen, hm, hb, hr, hlo, hhi, ha, hq⟩
      indices := fun ⟨hr, _, _, hq⟩ => ⟨hr, hpos, hpos, hq⟩ }

theorem State.Preserves.writeCqbase (s : State) (v : Word) : s.Preserves (s.writeCqbase v) :=
  .lockable _
    { legal := fun ⟨hd, hlen, hm, hb, hr, h2, h8, ha, h4, h10, _⟩ =>
        ⟨hd, hlen, hm, hb, hr, h2, h8, ha, h4, h10, storedBase_aligned v⟩ }

theorem State.Preserves.writeCqsize (s : State) (v : Word) : s.Preserves (s.writeCqsize v) := by
  have hpos : 0 < sizeOf2 (clampQueueSize v) := Nat.two_pow_pos _
  obtain ⟨hlo, hhi⟩ := clampQueueSize_bounds v
  exact .lockable _
    { legal := fun ⟨hd, hlen, hm, hb, hr, h2, h8, ha, _, _, hq⟩ => ⟨hd, hlen, hm, hb, hr, h2, h8, ha, hlo, hhi, hq⟩
      indices := fun ⟨hr, hp, hc, _, _⟩ => ⟨hr, hp, hc, hpos, hpos⟩ }

theorem State.Preserves.writeGctl (s : State) (v : Word) : s.Preserves (s.writeGctl v) :=
  .ite (fun _ => .dozeRequest s _) fun _ => .dozeCancel s _

theorem State.Works.writeFltrel (h : s.Works t) (v : Word) : s.Works (t.writeFltrel v) := by
  unfold State.writeFltrel
  split
  · exact h.releaseFault _
  · exact h.releaseError

theorem State.Preserves.haltWrite (s : State) (r : Reg) (v : Word) : s.Preserves (s.haltWrite r v) := by
  cases r with
  | gctl => exact .ite (fun _ => (Keeps.softReset s).toPreserves) fun _ => .refl s
  | inten => exact .writeInten s v
  | intstat => exact (Keeps.writeIntstat s v).toPreserves
  | counter c => exact (Keeps.clearCounter s c).toPreserves
  | _ => exact .refl s

theorem State.Preserves.regWrite (s : State) (r : Reg) (v : Word) : s.Preserves (s.regWrite r v) := by
  cases r with
  | gctl => exact .ite (fun _ => (Keeps.softReset s).toPreserves) fun _ => .writeGctl s v
  | gstat => exact (Keeps.writeGstat s v).toPreserves
  | intstat => exact (Keeps.writeIntstat s v).toPreserves
  | inten => exact .writeInten s v
  | cqmod => exact .writeCqmod s v
  | ldiv => exact .writeLdiv s v
  | lcfg => exact .writeLcfg s v
  | ltime => exact .writeLtime s v
  | llim => exact .writeLlim s v
  | linkctl => exact (Keeps.writeLinkctl s _ _).toPreserves
  | plctl => exact .writePlctl s v
  | plist i => exact .writePlist s i v
  | lsn k => exact .writeLsn s k v
  | stnsel => exact .writeStnsel s v
  | stndat => exact .writeStndat s v
  | stnchg m => exact (Keeps.writeStnchg s m v).toPreserves
  | mapbase => exact .writeMapbase s v
  | maplen => exact .writeMaplen s v
  | txbase n => exact .writeTxbase s n v
  | txsize n => exact .writeTxsize s n v
  | txprod n => exact (Keeps.writeTxprod s n v).toPreserves
  | rxbase => exact .writeRxbase s v
  | rxsize => exact .writeRxsize s v
  | rxprod => exact (Keeps.writeRxprod s v).toPreserves
  | rxctl => exact (Keeps.writeRxctl s _).toPreserves
  | cqbase => exact .writeCqbase s v
  | cqsize => exact .writeCqsize s v
  | cqhead => exact (Keeps.writeCqhead s v).toPreserves
  | cmd => exact (Keeps.writeCmd s _).toPreserves
  | cmdstat => exact (Keeps.writeCmdstat s v).toPreserves
  | fltrel => exact ((Works.refl s).writeFltrel v).toPreserves
  | counter c => exact (Keeps.clearCounter s c).toPreserves
  | _ => exact .refl s

theorem State.Preserves.writeAt (s : State) (w : AccessWidth) (off : BitVec 12) (v : Word) :
    s.Preserves (s.writeAt w off v) := by
  refine .ite (fun _ => .refl s) fun _ => ?_
  split
  · exact .refl s
  · exact .ite (fun _ => .haltWrite s _ v) fun _ => (Preserves.regWrite s _ v).trans (Works.refl _).settle.toPreserves

/-! ## One bit time -/

theorem length_updateAt {α : Type} (l : List α) (i : Nat) (f : α → α) : (updateAt l i f).length = l.length := by
  unfold updateAt
  split
  · exact List.length_set
  · rfl

theorem State.Preserves.strike (s : State) (x : Upset) : s.Preserves (s.strike x) := by
  cases x with
  | station a => exact .setStation s a _
  | listen k => exact {}
  | staging k => exact {}
  | rxBuffer i => exact { buffers := fun ⟨hq, hb, hm⟩ => ⟨hq, (length_updateAt ..).trans_le hb, hm⟩ }
  | command i => exact { buffers := fun ⟨hq, hb, hm⟩ => ⟨(length_updateAt ..).trans_le hq, hb, hm⟩ }
  | cache i c => exact { buffers := fun ⟨hq, hb, hm⟩ => ⟨hq, hb, (length_updateAt ..).trans_le hm⟩ }

theorem State.Preserves.upset (s : State) : s.Preserves s.upset := by
  unfold State.upset
  split
  · exact .refl s
  next x rest _ =>
    have h1 : s.Preserves { s with upsets := rest } := {}
    exact h1.trans (.strike _ x)

theorem State.Works.tickRx (h : s.Works t) : s.Works t.tickRx :=
  .ite (fun _ => (h.setRx _).endStopBit) fun _ => h.setRx _

theorem State.Works.tickTx (h : s.Works t) : s.Works t.tickTx := .ite (fun _ => h) fun _ => h.setTx _

theorem State.Works.tickDelay (h : s.Works t) : s.Works t.tickDelay := h.setCq _

theorem State.Works.fireTx (h : s.Works t) : s.Works t.fireTx := by
  unfold State.fireTx
  split
  · exact h
  · exact .ite (fun _ => h.breakEnds) fun _ => h
  · exact .ite (fun _ => .ite (fun _ => h.endsAfterBreak) fun _ => h) fun _ =>
      .ite (fun _ => .ite (fun _ => h.frameStops) fun _ => h) fun _ => .ite (fun _ => h.frameEnds) fun _ => h

/-- The expiries of one bit time, each an event of its own. -/
theorem State.Works.fires {l : List (State → State)} (hl : ∀ f ∈ l, ∀ v : State, v.awake = true → v.Works (f v))
    (h : s.Works t) : s.Works (l.foldl (fun t f => if t.awake then (f t).settle else t) t) := by
  induction l generalizing t with
  | nil => exact h
  | cons f l ih =>
    refine ih (fun g hg => hl g (List.mem_cons_of_mem f hg)) ?_
    exact .ite (fun ha => (h.trans (hl f List.mem_cons_self t ha)).settle) fun _ => h

theorem State.Works.fireAll (h : s.Works t) : s.Works t.fireAll := by
  refine State.Works.fires ?_ h
  simp only [List.forall_mem_cons, List.not_mem_nil, false_implies, implies_true, and_true]
  exact ⟨fun v _ => .ite (fun _ => (Works.refl v).breakDetected) fun _ => .refl v,
    fun v _ => (Works.refl v).fireTx,
    fun v _ => .ite (fun _ => (Works.refl v).gapExpires) fun _ => .refl v,
    fun v _ => .ite (fun _ => (Works.refl v).deadlinePasses) fun _ => .refl v,
    fun v _ => .ite (fun _ => (Works.refl v).broadcastSettles) fun _ => .refl v,
    fun v ha => (Works.refl v).transmissionStarts ha,
    fun v _ => .ite (fun _ => (Works.refl v).pauseEnds) fun _ => .refl v,
    fun v _ => .ite (fun _ => (Works.refl v).anchorLost) fun _ => .refl v,
    fun v _ => .ite (fun _ => (Works.refl v).delayExpires) fun _ => .refl v⟩

theorem State.Works.tickWakeDet (h : s.Works t) : s.Works t.tickWakeDet :=
  .ite (fun _ => .ite (fun _ => h.wake.breakFound.settle) fun _ => h.setWakeDet _) fun _ => h

theorem State.Preserves.tick (s : State) : s.Preserves s.tick := by
  have hd : s.Preserves (if s.held then s else s.upset).due :=
    (Preserves.ite (fun _ => .refl s) fun _ => .upset s).trans (Works.refl _).due.toPreserves
  refine .ite (fun _ => hd.trans ?_) fun _ => .ite (fun _ => hd.trans (Works.refl _).tickWakeDet.toPreserves) fun _ => hd
  exact (((Works.refl _).tickRx.setLink _).tickTx.tickDelay.fireAll).toPreserves

/-! ## Every command -/

/-- A row that happens inside the controller. -/
theorem exec_works {c : Instr} (s : State) (hc : c.internal = true) : ∃ t : State, exec c s = .next t ∧ s.Works t := by
  have hs := State.Works.refl s
  cases c with
  | dozeEntry => exact ⟨_, rfl, hs.dozeEntry⟩
  | characterReceived c => exact ⟨_, rfl, .event fun v _ => (State.Works.refl v).charReceived c⟩
  | gapLimitTruncation => exact ⟨_, rfl, .event fun v _ => (State.Works.refl v).gapExpires⟩
  | breakDetected => exact ⟨_, rfl, .event fun v _ => (State.Works.refl v).breakDetected⟩
  | breakDetectorRearm => exact ⟨_, rfl, .event fun v _ => (State.Works.refl v).breakRearm⟩
  | breakRunEnd =>
    exact ⟨_, rfl, .lineEvent (fun v => (State.Works.refl v).breakRunEnd) fun v => (State.Works.refl v).setWakeDet _⟩
  | falseStart => exact ⟨_, rfl, .event fun v _ => (State.Works.refl v).falseStartSeen⟩
  | idleReferencePoint => exact ⟨_, rfl, .event fun v _ => (State.Works.refl v).idlePoint⟩
  | fallingEdge =>
    exact ⟨_, rfl, .lineEvent (fun v => (State.Works.refl v).fallingEdge) fun v => (State.Works.refl v).setWakeDet _⟩
  | transmissionStart => exact ⟨_, rfl, .event fun v ha => (State.Works.refl v).transmissionStarts ha⟩
  | frameSent => exact ⟨_, rfl, .event fun v _ => (State.Works.refl v).frameEnds⟩
  | frameStopped => exact ⟨_, rfl, .event fun v _ => (State.Works.refl v).frameStops⟩
  | breakSent => exact ⟨_, rfl, .event fun v _ => (State.Works.refl v).breakEnds⟩
  | transmissionEndAfterBreak => exact ⟨_, rfl, .event fun v _ => (State.Works.refl v).endsAfterBreak⟩
  | replyWindowExpiry => exact ⟨_, rfl, .event fun v _ => (State.Works.refl v).deadlinePasses⟩
  | broadcastSettled => exact ⟨_, rfl, .event fun v _ => (State.Works.refl v).broadcastSettles⟩
  | pollIdlePauseEnd => exact ⟨_, rfl, .event fun v _ => (State.Works.refl v).pauseEnds⟩
  | anchorLost => exact ⟨_, rfl, .event fun v _ => (State.Works.refl v).anchorLost⟩
  | moderationDelayExpiry => exact ⟨_, rfl, .event fun v _ => (State.Works.refl v).delayExpires⟩
  | decision => exact ⟨_, rfl, hs.decision⟩
  | stagingStart => exact ⟨_, rfl, hs.stagingStart⟩
  | drainStart => exact ⟨_, rfl, hs.drainStart⟩
  | recordWriteIssue => exact ⟨_, rfl, hs.recordIssue⟩
  | _ => cases hc

/-- A command that configures nothing. -/
theorem exec_keeps {c : Instr} (s : State) (hc : c.configures = false) : ∃ t : State, exec c s = .next t ∧ s.Keeps t := by
  have hd := (State.Works.refl s).due.toKeeps
  cases hi : c.internal with
  | true =>
    obtain ⟨t, ht, hw⟩ := exec_works s hi
    exact ⟨t, ht, hw.toKeeps⟩
  | false =>
    cases c with
    | resetHoldEnd src => exact ⟨_, rfl, hd.trans (.holdEnd _ src)⟩
    | softReset => exact ⟨_, rfl, .accessInHalt .softReset⟩
    | wakeHeadCharacter c => exact ⟨_, rfl, (State.Works.atWakeDetector fun v => (State.Works.refl v).wakeHead c).toKeeps⟩
    | wakeBreak => exact ⟨_, rfl, (State.Works.atWakeDetector fun v => (State.Works.refl v).wakeBreakSeen).toKeeps⟩
    | fetchComplete x r => exact ⟨_, rfl, (State.Works.dmaEvent x _ fun v => (State.Works.refl v).fetchDone r).toKeeps⟩
    | walkComplete x r => exact ⟨_, rfl, (State.Works.dmaEvent x _ fun v => (State.Works.refl v).walkDone r).toKeeps⟩
    | markWriteComplete x r => exact ⟨_, rfl, (State.Works.dmaEvent x _ fun v => (State.Works.refl v).markDone r).toKeeps⟩
    | payloadReadComplete x r => exact ⟨_, rfl, (State.Works.dmaEvent x _ fun v => (State.Works.refl v).payloadDone r).toKeeps⟩
    | errWriteBackComplete x k r => exact ⟨_, rfl, (State.Works.dmaEvent _ _ fun v => (State.Works.refl v).errWriteDone k r).toKeeps⟩
    | rxDescriptorReadComplete x r => exact ⟨_, rfl, (State.Works.dmaEvent x _ fun v => (State.Works.refl v).rxDescDone r).toKeeps⟩
    | rxPayloadWriteComplete x n r =>
      exact ⟨_, rfl, (State.Works.dmaEvent x _ fun v => (State.Works.refl v).rxPayloadDone n r).toKeeps⟩
    | word2WriteComplete x r => exact ⟨_, rfl, (State.Works.dmaEvent x _ fun v => (State.Works.refl v).word2Done r).toKeeps⟩
    | word3WriteComplete x r => exact ⟨_, rfl, (State.Works.dmaEvent x _ fun v => (State.Works.refl v).word3Done r).toKeeps⟩
    | recordWriteComplete x r => exact ⟨_, rfl, (State.Works.dmaEvent x _ fun v => (State.Works.refl v).recordDone r).toKeeps⟩
    | nop | invalidateChannel | invalidateAll | fence | lineBreak | syncAll | stationReset | ringStart | ringStop
    | illegalCommand => exact ⟨_, rfl, .access fun v => .writeCmd v _⟩
    | resume | skip | hold => exact ⟨_, rfl, .access fun v => ((State.Works.refl v).releaseFault _).toKeeps⟩
    | txDoorbell n v => exact ⟨_, rfl, .access fun u => .writeTxprod u n v⟩
    | rxDoorbell v => exact ⟨_, rfl, .access fun u => .writeRxprod u v⟩
    | cqheadWrite v => exact ⟨_, rfl, .access fun u => .writeCqhead u v⟩
    | linkEnable | linkDisable | pollEnable | pollDisable => exact ⟨_, rfl, .access fun v => .writeLinkctl v _ _⟩
    | rxEnable | rxDisable => exact ⟨_, rfl, .access fun v => .writeRxctl v _⟩
    | intstatClear v => exact ⟨_, rfl, .accessInHalt fun u => .writeIntstat u v⟩
    | stnchgClear m v => exact ⟨_, rfl, .access fun u => .writeStnchg u m v⟩
    | gstatClear v => exact ⟨_, rfl, .access fun u => .writeGstat u v⟩
    | cmdstatClear v => exact ⟨_, rfl, .access fun u => .writeCmdstat u v⟩
    | counterClear c v => exact ⟨_, rfl, .accessInHalt fun u => .clearCounter u c⟩
    | stndatRead => exact ⟨_, rfl, hd.trans (.readChecked _ _ _ _)⟩
    | lsnRead k => exact ⟨_, rfl, hd.trans (.readChecked _ _ _ _)⟩
    | powerOnReset | hardReset | txsizeWrite | rxsizeWrite | cqsizeWrite | cqmodWrite | lsnWrite | intenWrite
    | dozeRequest | dozeCancel | stndatWrite | registerWrite => cases hc
    | _ => cases hi

/-- Every command. -/
theorem exec_preserves (c : Instr) (s : State) : ∃ t : State, exec c s = .next t ∧ s.Preserves t := by
  have hd := (State.Works.refl s).due.toPreserves
  cases hc : c.configures with
  | false =>
    obtain ⟨t, ht, hk⟩ := exec_keeps s hc
    exact ⟨t, ht, hk.toPreserves⟩
  | true =>
    cases c with
    | powerOnReset => exact ⟨_, rfl, hd.trans (.fullReset _ _ _)⟩
    | hardReset => exact ⟨_, rfl, hd.trans (.fullReset _ _ _)⟩
    | txsizeWrite n v => exact ⟨_, rfl, .access fun u => .writeTxsize u n v⟩
    | rxsizeWrite v => exact ⟨_, rfl, .access fun u => .writeRxsize u v⟩
    | cqsizeWrite v => exact ⟨_, rfl, .access fun u => .writeCqsize u v⟩
    | cqmodWrite v => exact ⟨_, rfl, .access fun u => .writeCqmod u v⟩
    | lsnWrite k v => exact ⟨_, rfl, .access fun u => .writeLsn u k v⟩
    | intenWrite v => exact ⟨_, rfl, .accessInHalt fun u => .writeInten u v⟩
    | dozeRequest b => exact ⟨_, rfl, .access fun u => .dozeRequest u b⟩
    | dozeCancel b => exact ⟨_, rfl, .access fun u => .dozeCancel u b⟩
    | stndatWrite v => exact ⟨_, rfl, .access fun u => .writeStndat u v⟩
    | registerWrite w off v => exact ⟨_, rfl, hd.trans (.writeAt _ w off v)⟩
    | _ => cases hc

/-- A step preserves every invariant: it runs the front command, or lets one bit time pass. -/
theorem step_preserves (h : step s = .next t) : s.Preserves t := by
  unfold step at h
  split at h
  · cases h; exact .tick s
  next c rest _ =>
    have h1 : s.Preserves (s.setPending rest) := {}
    obtain ⟨v, hv, hk⟩ := exec_preserves c (s.setPending rest)
    rw [hv] at h
    cases h
    exact h1.trans hk

/-! ## The statements -/

/-- Settles O57, as one part of what every step preserves. -/
theorem buffersFitKept : Obligations.BuffersFitKept := fun _ _ hs h => (step_preserves h).buffers hs

/-- Settles O58, as one part of what every step preserves. -/
theorem registersLegalKept : Obligations.RegistersLegalKept := fun _ _ hl hi h =>
  ⟨(step_preserves h).legal hl, (step_preserves h).indices hi⟩

/-- Settles O59: the records of a member change at no internal row, for no operation that writes one runs in that role. -/
theorem reservedRecordsKept : Obligations.ReservedRecordsKept := by
  refine ⟨fun s t hs h => (step_preserves h).reserved hs, fun c s t hc hr hq h => ?_⟩
  obtain ⟨u, hu, hw⟩ := exec_works s hc
  rw [hu] at h
  cases h
  exact (hw.member hr hq).1

/-- Settles O5: a command that configures nothing keeps the configuration with every operation it runs. -/
theorem configurationFrame : Obligations.ConfigurationFrame := by
  intro c s t hc h
  obtain ⟨u, hu, hk⟩ := exec_keeps s hc
  rw [hu] at h
  cases h
  exact hk.config

/-! ## Rows inside a controller that does not work -/

theorem State.recordIssue_of_not_awake (h : s.awake = false) : s.recordIssue = s := by
  unfold State.recordIssue
  split
  · rfl
  · simp [State.writerReady, h]

theorem State.drainStart_of_not_awake (h : s.awake = false) : s.drainStart = s := by simp [State.drainStart, h]

theorem State.stagingStart_of_not_awake (h : s.awake = false) : s.stagingStart = s := by
  refine if_pos ?_
  cases hh : s.held
  · have hp : s.glb.power ≠ .run := fun hp => by simp [(s.awake_iff).mpr ⟨hh, .inl hp⟩] at h
    simp [hp]
  · rfl

theorem State.decision_of_not_awake (h : s.awake = false) : s.decision = s := by
  simp [State.decision, State.decides, h]

theorem State.dozeEntry_of_not_awake (h : s.awake = false) : s.dozeEntry = s := by
  refine if_neg fun hc => ?_
  simp only [Bool.and_eq_true, Bool.not_eq_true', beq_iff_eq] at hc
  simp [(s.awake_iff).mpr ⟨hc.1.1, .inr hc.1.2⟩] at h

/-- A row that happens inside has no effect on a controller that does not work, unless the wake detector takes it. -/
theorem exec_internal_of_not_awake {c : Instr} (h : s.awake = false) (hc : c.internal = true)
    (hw : s.watching = true → c ≠ .fallingEdge ∧ c ≠ .breakRunEnd) : exec c s = .next s := by
  have hevent (f : State → State) : Host.Outcome.next (s.event f) = (.next s : Host.Outcome State Fault Refusal) :=
    congrArg _ (State.event_of_not_awake f h)
  have hline (f g : State → State) (hn : ¬s.watching = true) :
      Host.Outcome.next (s.lineEvent f g) = (.next s : Host.Outcome State Fault Refusal) := by
    rw [State.lineEvent_of_not_watching _ _ (by rwa [State.due_of_not_awake h, ← Bool.not_eq_true])]
    exact hevent f
  cases c with
  | fallingEdge => exact hline _ _ fun hn => (hw hn).1 rfl
  | breakRunEnd => exact hline _ _ fun hn => (hw hn).2 rfl
  | dozeEntry => exact congrArg _ (State.dozeEntry_of_not_awake h)
  | decision => exact congrArg _ (State.decision_of_not_awake h)
  | stagingStart => exact congrArg _ (State.stagingStart_of_not_awake h)
  | drainStart => exact congrArg _ (State.drainStart_of_not_awake h)
  | recordWriteIssue => exact congrArg _ (State.recordIssue_of_not_awake h)
  | characterReceived | gapLimitTruncation | breakDetected | breakDetectorRearm | falseStart | idleReferencePoint
  | transmissionStart | frameSent | frameStopped | breakSent | transmissionEndAfterBreak | replyWindowExpiry
  | broadcastSettled | pollIdlePauseEnd | anchorLost | moderationDelayExpiry => exact hevent _
  | _ => cases hc

/-- Settles O2: no event reaches its effect there, and that the line stays released is one part of what every step preserves. -/
theorem internalRowsNeedWorkingController : Obligations.InternalRowsNeedWorkingController :=
  ⟨fun _ _ h hc hw => exec_internal_of_not_awake h hc hw, fun _ _ hs h => (step_preserves h).released hs⟩

/-! ## After reset -/

/-- Settles O60: reset leaves every buffer empty, every index 0 and the controller awake. -/
theorem resetMeetsInvariants : Obligations.ResetMeetsInvariants :=
  ⟨⟨Nat.zero_le _, Nat.zero_le _, Nat.zero_le _⟩, State.reset_meets.1, State.reset_meets.2, freshRecords_reserved,
    fun h => by cases h⟩

end Sys2Proof.Machine
end

section
/-! PROOFS. Steps, resets and power states: what a controller that does not work ignores, what the resets give, and how Doze is
asked for, entered and left. -/

namespace Sys2Proof.Machine

set_option Elab.async false

variable {s t u : State}

/-! ## A step, and a bit time that changes nothing -/

theorem State.tick_of_held (h : s.held = true) : s.tick = s := by
  have ha : s.awake = false := by simp [State.awake, h]
  have hl : s.live = false := by simp [State.live, h]
  simp [State.tick, h, State.due_of_not_awake ha, ha, hl]

/-- Outside Counting a bit time leaves a detector as it is (R10). -/
theorem BreakDet.low_of_not_counting {d : BreakDet} (h : ∀ n : Nat, d ≠ .counting n) : d.low = d := by
  cases d with
  | armed => rfl
  | counting n => exact absurd rfl (h n)
  | rearming => rfl

theorem State.tickWakeDet_of_quiet (h : s.watching = false ∨ ∀ n : Nat, s.wakeDet ≠ .counting n) : s.tickWakeDet = s := by
  unfold State.tickWakeDet
  rcases h with h | h
  · simp [h]
  · have hr : s.wakeDet.reached = false := Bool.eq_false_iff.mpr fun hr => by
      obtain ⟨n, hn, -⟩ := s.wakeDet.reached_iff.mp hr
      exact h n hn
    rw [hr, BreakDet.low_of_not_counting h]
    split
    · rfl
    · rfl

theorem State.tick_of_not_awake (hu : s.upsets = []) (ha : s.awake = false)
    (hw : s.watching = false ∨ ∀ n : Nat, s.wakeDet ≠ .counting n) : s.tick = s := by
  have hup : (if s.held then s else s.upset) = s := by simp [State.upset, hu]
  simp [State.tick, hup, State.due_of_not_awake ha, ha, State.tickWakeDet_of_quiet hw]

theorem step_of_empty (h : s.pending = []) : step s = .next s.tick := by simp [step, h]

/-- Settles O1: a step unfolds to its command, or to a bit time in which nothing counts. -/
theorem stepRunsFrontCommand : Obligations.StepRunsFrontCommand :=
  ⟨fun _ _ _ => rfl, fun _ h => step_of_empty h,
    fun _ h hh => (step_of_empty h).trans (congrArg _ (State.tick_of_held hh)),
    fun _ h hu ha hw => (step_of_empty h).trans (congrArg _ (State.tick_of_not_awake hu ha hw))⟩

/-! ## Held and Halted -/

theorem State.watching_live (h : s.watching = true) : s.live = true := by
  simp only [State.watching, Bool.and_eq_true, Bool.not_eq_true', beq_iff_eq] at h
  obtain ⟨⟨⟨hh, hp⟩, -⟩, -⟩ := h
  rw [State.live_iff, State.halted, hp]
  exact ⟨hh, rfl⟩

theorem State.awake_of_not_live (h : s.live = false) : s.awake = false :=
  Bool.eq_false_iff.mpr fun ha => by simp [State.live_of_awake ha] at h

theorem State.live_of_held (h : s.held = true) : s.live = false := by simp [State.live, h]

theorem State.live_of_halted (h : s.halted = true) : s.live = false := by simp [State.live, h]

theorem State.atWakeDetector_of_not_watching (f : State → State) (h : s.live = false) : s.atWakeDetector f = s := by
  have hw : s.watching = false := Bool.eq_false_iff.mpr fun hw => by simp [State.watching_live hw] at h
  simp [State.atWakeDetector, State.due_of_not_awake (State.awake_of_not_live h), hw]

theorem State.accessInHalt_of_held (f : State → State) (h : s.held = true) : s.accessInHalt f = s := by
  simp [State.accessInHalt, State.due_of_not_awake (State.awake_of_not_live (State.live_of_held h)), h]

/-- A controller that is held or Halted lets through nothing but the holds, the completions, the two reads and what R162
names. -/
theorem exec_of_not_live {c : Instr} (h : s.live = false) (hs : c.setsHold = false) (hd : c.completesDma = false)
    (hr : c.readsRegister = false) (ho : c.openInHalt = false) : exec c s = .next s := by
  have hacc (f : State → State) : Host.Outcome.next (s.access f) = (.next s : Host.Outcome State Fault Refusal) :=
    congrArg _ (State.access_of_not_live f h)
  have hdet (f : State → State) : Host.Outcome.next (s.atWakeDetector f) = (.next s : Host.Outcome State Fault Refusal) :=
    congrArg _ (State.atWakeDetector_of_not_watching f h)
  cases hi : c.internal with
  | true =>
    refine exec_internal_of_not_awake (State.awake_of_not_live h) hi fun hw => ?_
    rw [State.watching_live hw] at h
    cases h
  | false =>
    cases c with
    | wakeHeadCharacter | wakeBreak => exact hdet _
    | dozeRequest | dozeCancel | nop | invalidateChannel | invalidateAll | fence | lineBreak | syncAll | stationReset
    | ringStart | ringStop | illegalCommand | resume | skip | hold | txDoorbell | rxDoorbell | cqheadWrite | txsizeWrite
    | rxsizeWrite | cqsizeWrite | linkEnable | linkDisable | pollEnable | pollDisable | rxEnable | rxDisable
    | stnchgClear | gstatClear | cmdstatClear | stndatWrite | lsnWrite | cqmodWrite => exact hacc _
    | powerOnReset | hardReset | resetHoldEnd => cases hs
    | softReset | intstatClear | intenWrite | counterClear | registerWrite => cases ho
    | stndatRead | lsnRead => cases hr
    | fetchComplete | walkComplete | markWriteComplete | payloadReadComplete | errWriteBackComplete
    | rxDescriptorReadComplete | rxPayloadWriteComplete | word2WriteComplete | word3WriteComplete | recordWriteComplete =>
      cases hd
    | _ => cases hi

theorem exec_of_held {c : Instr} (h : s.held = true) (hs : c.setsHold = false) (hd : c.completesDma = false)
    (hr : c.readsRegister = false) : exec c s = .next s := by
  cases ho : c.openInHalt with
  | false => exact exec_of_not_live (State.live_of_held h) hs hd hr ho
  | true =>
    cases c with
    | softReset | intstatClear | intenWrite | counterClear => exact congrArg _ (State.accessInHalt_of_held _ h)
    | registerWrite w off v =>
      refine congrArg Host.Outcome.next ?_
      rw [State.due_of_not_awake (State.awake_of_not_live (State.live_of_held h))]
      simp [State.writeAt, h]
    | _ => cases ho

/-- In Halt a register that R162 does not name ignores its write. -/
theorem State.haltWrite_of_closed {r : Reg} (v : Word) (h : r.openInHalt = false) : s.haltWrite r v = s := by
  cases r with
  | gctl | inten | intstat | counter => cases h
  | _ => rfl

theorem State.writeAt_of_halted_closed {off : BitVec 12} (w : AccessWidth) (v : Word) (h : s.halted = true)
    (ho : (regAt off).any Reg.openInHalt = false) : s.writeAt w off v = s := by
  unfold State.writeAt
  split
  · rfl
  cases hr : regAt off with
  | none => rfl
  | some r =>
    rw [hr, Option.any_some] at ho
    simp [State.haltWrite_of_closed v ho]

/-- In Halt no unit waits for a transaction, so its completion only leaves the bus (R161). -/
theorem State.dmaEvent_of_halted (x : Txn) (k : DmaKind) (f : State → State) (h : s.halted = true) :
    ∃ b : Bus, s.dmaEvent x k f = s.setBus b := by
  rw [State.dmaEvent, State.due_of_not_awake (State.awake_of_halted h)]
  rw [State.dmaDone_not_in_flight x _ (by simp [State.inFlight_of_halted h])]
  exact s.orphanDone_cases k

/-- Settles O3: nothing reaches a register there but what R162 names, and no unit waits for a completion. -/
theorem heldAndHaltIgnoreWrites : Obligations.HeldAndHaltIgnoreWrites := by
  refine ⟨fun c s h hs hd hr => exec_of_held h hs hd hr,
    fun c s h hs hd hr ho => exec_of_not_live (State.live_of_halted h) hs hd hr ho, fun w off v s h ho => ?_,
    fun c s h hd => ?_⟩
  · refine congrArg Host.Outcome.next ?_
    rw [State.due_of_not_awake (State.awake_of_halted h), State.writeAt_of_halted_closed w v h ho]
  · have hbus (x : Txn) (k : DmaKind) (f : State → State) : ∃ b : Bus,
        Host.Outcome.next (s.dmaEvent x k f) = (.next (s.setBus b) : Host.Outcome State Fault Refusal) :=
      (State.dmaEvent_of_halted x k f h).imp fun _ hb => congrArg _ hb
    cases c with
    | fetchComplete | walkComplete | markWriteComplete | payloadReadComplete | errWriteBackComplete
    | rxDescriptorReadComplete | rxPayloadWriteComplete | word2WriteComplete | word3WriteComplete | recordWriteComplete =>
      exact hbus _ _ _
    | _ => cases hd

/-! ## Events in which nothing is due -/

theorem State.recordIssue_of_none_held (h : s.cq.holding = []) : s.recordIssue = s := by simp [State.recordIssue, h]

theorem State.drainStart_of_not_ready (h : s.rxp.canDrain = false) : s.drainStart = s := by simp [State.drainStart, h]

theorem State.stagingStart_of_none_stageable (h : ∀ n : Fin 4, s.stageable n = false) : s.stagingStart = s := by
  have hn : rings4.find? s.stageable = none := List.find?_eq_none.mpr fun n _ => by simp [h n]
  simp [State.stagingStart, hn]

theorem State.pickSlot_of_none (h0 : s.slot 0 = none) (h1 : s.slot 1 = none) : s.pickSlot s.eligible = none := by
  simp [State.pickSlot, State.eligible, h0, h1]

theorem State.pollScan_of_pollen (h : s.link.pollen = false) : s.pollScan = (s, none) := by
  simp [State.pollScan, State.canScan, h]

/-- With no command, no staged message and no polling a decision finds nothing to do (R41). -/
theorem State.decision_of_nothing (hq : s.cmd.queue = []) (h0 : s.slot 0 = none) (h1 : s.slot 1 = none)
    (hp : s.link.pollen = false) : s.decision = s := by
  unfold State.decision
  split
  · have hu : s.readyUnsound = false := by simp [State.readyUnsound, State.readForChoice, h0, h1]
    have hl : s.lineCommand = none := by simp [State.lineCommand, hq]
    rw [hl, hu]
    simp only [unsound_false, State.checked_none, State.chooseTraffic, State.pickSlot_of_none h0 h1,
      State.pollScan_of_pollen hp]
  · rfl

theorem State.decision_of_not_decides (h : s.decides = false) : s.decision = s := by simp [State.decision, h]

theorem State.dozeEntry_of_not_pending (h : s.glb.power ≠ .dozePending) : s.dozeEntry = s := by
  simp [State.dozeEntry, h]

theorem State.settle_of_halted (h : s.halted = true) : s.settle = s := if_pos h

/-- Settles O4: each start finds its condition missing. -/
theorem quietEventsChangeNothing : Obligations.QuietEventsChangeNothing := by
  refine ⟨fun s hh hr hs hp hd => ?_, fun s h => State.settle_of_nothing h,
    fun s h => ⟨State.due_of_not_awake (State.awake_of_halted h), State.settle_of_halted h⟩⟩
  have hdec : s.decision = s := by
    rcases hd with hd | ⟨hq, h0, h1, hpoll⟩
    · exact State.decision_of_not_decides hd
    · exact State.decision_of_nothing hq h0 h1 hpoll
  rw [State.due, State.recordIssue_of_none_held hh, State.drainStart_of_not_ready hr,
    State.stagingStart_of_none_stageable hs, hdec, State.dozeEntry_of_not_pending hp, ite_self]

/-! ## Resets -/

/-- Settles O7: each full reset is a state written out, and a hold's end changes its own flag. -/
theorem fullResetsGiveResetValues : Obligations.FullResetsGiveResetValues := by
  refine ⟨fun s h => ?_, fun s => ⟨rfl, rfl⟩⟩
  have hend (src : HoldSource) : exec (.resetHoldEnd src) s = .next (s.holdEnd src) := by
    change Host.Outcome.next (s.due.holdEnd src) = _
    rw [State.due_of_not_awake (State.awake_of_not_live (State.live_of_held h))]
  exact ⟨hend .powerOn, hend .nReset⟩

/-- Settles O8: the state a soft reset makes is written out; its tables keep what R165 names entry by entry. -/
theorem softResetKeepsConfiguration : Obligations.SoftResetKeepsConfiguration := by
  intro s hh
  refine ⟨s.due.softReset, congrArg _ (State.accessInHalt_of_not_held _ hh), rfl, rfl, rfl, rfl, rfl, rfl, rfl,
    fun n => ?_, rfl, rfl, rfl, rfl, fun k => ?_, fun a h0 h127 => State.station_softReset _ h0 h127, rfl, rfl, rfl, rfl, rfl,
    rfl, rfl, rfl, fun k => ?_, rfl, rfl, rfl, rfl, rfl, rfl⟩
  · rw [State.ring_softReset]; exact ⟨rfl, rfl, rfl, rfl, rfl⟩
  · rw [State.lsn_softReset]; rfl
  · exact Vector.getElem_replicate k.isLt

/-! ## Doze -/

/-- The receiver's activation changes the receiver and FRX alone, and leaves the receiver as R5 says. -/
theorem State.syncRx_eq (s : State) : ∃ r f, s.syncRx = (s.setRx r).setFrx f ∧ r.active = s.rxWanted := by
  unfold State.syncRx
  split
  next h => exact ⟨s.rx, s.frx, rfl, h.symm⟩
  split
  next h => exact ⟨.activated, s.frx, rfl, h.symm⟩
  next h => exact ⟨{}, { s.frx with state := .hunt }, rfl, (Bool.eq_false_iff.mpr h).symm⟩

theorem State.restartAnchor_eq (s : State) : ∃ l : Link, s.restartAnchor = s.setLink l ∧ l.state = s.link.state ∧
    l.x = s.link.x ∧ l.en = s.link.en ∧ l.pollen = s.link.pollen ∧ l.outbound = s.link.outbound := by
  unfold State.restartAnchor
  split
  · exact ⟨_, rfl, rfl, rfl, rfl, rfl, rfl⟩
  · exact ⟨s.link, rfl, rfl, rfl, rfl, rfl, rfl⟩

/-- Disabled to Idle changes the link, the receiver and FRX alone (R5, R32). -/
theorem State.enableLink_eq (s : State) : ∃ l r f, s.enableLink = ((s.setLink l).setRx r).setFrx f ∧
    l.state = .idle ∧ l.en = s.link.en ∧ l.pollen = s.link.pollen ∧
    l.outbound = (if s.line.role = .anchor then 0 else s.link.outbound) ∧
    r.active = (s.awake && (s.link.en || s.tx.phase != .off)) := by
  obtain ⟨l, hl, hstate, -, hen, hpollen, hout⟩ := State.restartAnchor_eq (s.setLink { s.link with
    state := .idle, outbound := if s.line.role = .anchor then 0 else s.link.outbound })
  obtain ⟨r, f, he, hr⟩ := State.syncRx_eq (s.setLink l)
  have hen : l.en = s.link.en := hen
  refine ⟨l, r, f, ?_, hstate, hen, hpollen, hout, ?_⟩
  · rw [State.enableLink]
    dsimp only
    rw [hl]
    exact he
  · rw [hr, ← hen]
    rfl

/-- What a request in Run leaves where Doze can be entered at once. -/
theorem State.dozeEntry_of_quiet (hh : s.held = false) (hp : s.glb.power = .dozePending) (hq : s.quiet = true) :
    s.dozeEntry = ((s.setPower .doze).syncRx).setWakeDet .armed := by
  simp [State.dozeEntry, hh, hp, hq]

/-- In Doze the receiver is inactive and nothing but it, FRX and the wake detector has changed (R168). -/
theorem State.syncRx_doze (s : State) : ∃ r f, (s.setPower .doze).syncRx = ((s.setPower .doze).setRx r).setFrx f ∧
    r.active = false := by
  obtain ⟨r, f, he, hr⟩ := (s.setPower .doze).syncRx_eq
  exact ⟨r, f, he, by rw [hr]; simp [State.rxWanted, State.awake, State.setPower]⟩

/-- A request in Run makes the controller Doze-Pending, and Doze may be entered at once (R166, R167). -/
theorem State.dozeRequest_of_run (ichk : Bool) (hp : s.glb.power = .run) :
    s.dozeRequest ichk = (s.setGlb { s.glb with ichk := ichk, power := .dozePending }).dozeEntry := by
  simp [State.dozeRequest, hp, State.setPower, State.setGlb]

theorem State.dozeRequest_of_quiet (ichk : Bool) (hh : s.held = false) (hp : s.glb.power = .run) (hq : s.quiet = true) :
    ∃ r f, s.dozeRequest ichk =
      (((s.setGlb { s.glb with ichk := ichk, power := .doze }).setRx r).setFrx f).setWakeDet .armed ∧
      r.active = false := by
  let p := s.setGlb { s.glb with ichk := ichk, power := .dozePending }
  obtain ⟨r, f, he, hr⟩ := p.syncRx_doze
  refine ⟨r, f, (State.dozeRequest_of_run ichk hp).trans ?_, hr⟩
  exact (State.dozeEntry_of_quiet (s := p) hh rfl hq).trans (congrArg (·.setWakeDet .armed) he)

theorem State.dozeEntry_of_not_quiet (hq : s.quiet = false) : s.dozeEntry = s := by simp [State.dozeEntry, hq]

theorem State.wake_power (s : State) : s.wake.glb.power = .run := by
  obtain ⟨r, f, he, -⟩ := (s.setPower .run).syncRx_eq
  rw [State.wake, he]
  split
  · obtain ⟨l, r', f', hl, -⟩ := State.enableLink_eq ((((s.setPower .run).setRx r).setFrx f).setWakeDet .armed)
    rw [hl]; rfl
  · rfl

/-- Settles O9: a request makes Run Doze-Pending, from which Doze is entered at once where the controller is quiet. -/
theorem dozeRequestAndCancel : Obligations.DozeRequestAndCancel := by
  intro s ichk hlive
  obtain ⟨hheld, -⟩ := s.due.live_iff.mp hlive
  have hreq : exec (.dozeRequest ichk) s = .next (s.due.dozeRequest ichk).settle :=
    congrArg _ (State.access_of_live _ hlive)
  have hcan : exec (.dozeCancel ichk) s = .next (s.due.dozeCancel ichk).settle :=
    congrArg _ (State.access_of_live _ hlive)
  rw [hreq, hcan]
  generalize s.due = d at hheld
  refine ⟨fun hp hq => ?_, fun hp hq => ?_, fun hp => ?_, fun hp => ?_, fun hp => ?_, fun hp => ⟨d.wake_power, ?_⟩⟩
  · obtain ⟨r, f, he, hr⟩ := State.dozeRequest_of_quiet ichk hheld hp hq
    obtain ⟨-, -, hhold, hcmd, -⟩ := d.quiet_iff.mp hq
    rw [he]
    exact ⟨_, congrArg _ (State.settle_of_nothing ⟨hhold, hcmd⟩), rfl, hr, rfl, rfl, rfl, rfl, rfl⟩
  · rw [State.dozeRequest_of_run ichk hp, State.dozeEntry_of_not_quiet (by exact hq)]
  · rw [State.dozeRequest, if_neg (by exact hp)]
  · simp [State.dozeCancel, State.wakeWrite, hp, State.setPower, State.setGlb]
  · simp [State.dozeCancel, State.wakeWrite, hp]
  · simp [State.dozeCancel, State.wakeWrite, hp, d.wake_power]

/-- Settles O10: the seven conditions of `State.quiet`, one by one. -/
theorem dozeEntered : Obligations.DozeEntered := by
  intro s hh
  refine ⟨fun hp hslot hbuf hhold hcmd hlink hpoll hlde => ?_, fun hany => congrArg _ (if_neg fun hc => ?_)⟩
  · have hoff : s.tx.phase = .off := by simpa [State.lde] using hlde
    have hq : s.quiet = true := s.quiet_iff.mpr ⟨hslot, hbuf, hhold, hcmd, hlink, hpoll, hoff⟩
    obtain ⟨r, f, he, hr⟩ := s.syncRx_doze
    refine ⟨s.dozeEntry, rfl, ?_⟩
    rw [State.dozeEntry_of_quiet hh hp hq, he]
    exact ⟨rfl, hr, hlde, rfl, rfl, rfl, rfl, rfl, rfl⟩
  · simp only [Bool.and_eq_true, beq_iff_eq, State.quiet_iff] at hc
    obtain ⟨⟨-, hp⟩, hslot, hbuf, hhold, hcmd, hlink, hpoll, hoff⟩ := hc
    have hlde : s.lde = false := by simp [State.lde, hoff]
    rcases hany with h | h | h | h | h | h | ⟨h1, h2⟩ | ⟨h1, h2, h3⟩
    · simp [hlde] at h
    · exact h hp
    · simp [hslot] at h
    · exact h hbuf
    · exact h hhold
    · exact h hcmd
    · rcases hlink with h | h
      · exact h1 h
      · exact h2 h
    · simp [h1, h2, h3] at hpoll

/-- A wake changes the power state, the receiver, FRX and the wake detector, and, where LINKCTL.EN was stored in Doze, the link
(R168, R169). -/
theorem State.wake_eq (hh : s.held = false) : ∃ l r f,
    s.wake = ((((s.setPower .run).setLink l).setRx r).setFrx f).setWakeDet .armed ∧
    l.state = (if s.link.en = true ∧ s.link.state = .disabled then .idle else s.link.state) ∧
    (s.link.en = false ∨ s.link.state ≠ .disabled → l = s.link) ∧ l.en = s.link.en ∧
    r.active = (s.link.en || s.tx.phase != .off) := by
  obtain ⟨r, f, he, hr⟩ := (s.setPower .run).syncRx_eq
  have haw : (s.setPower .run).awake = true := (State.awake_iff _).mpr ⟨hh, .inl rfl⟩
  rw [State.rxWanted, haw, Bool.true_and] at hr
  rw [State.wake, he]
  split
  next hc =>
    rw [Bool.and_eq_true, beq_iff_eq] at hc
    obtain ⟨hen, hdis⟩ : s.link.en = true ∧ s.link.state = .disabled := hc
    obtain ⟨l, r', f', hl, hstate, hlen, -, -, hact⟩ :=
      State.enableLink_eq ((((s.setPower .run).setRx r).setFrx f).setWakeDet .armed)
    refine ⟨l, r', f', hl, ?_, fun h => ?_, hlen, hact.trans ?_⟩
    · rw [hstate, if_pos ⟨hen, hdis⟩]
    · rcases h with h | h
      · rw [hen] at h; cases h
      · exact absurd hdis h
    · exact (congrArg (· && (s.link.en || s.tx.phase != .off)) haw).trans (Bool.true_and _)
  next hc =>
    rw [Bool.and_eq_true, beq_iff_eq] at hc
    exact ⟨s.link, r, f, rfl, (if_neg hc).symm, fun _ => rfl, rfl, hr⟩

/-- Settles O11: what a wake changes, field by field. -/
theorem wakeReturnsToRun : Obligations.WakeReturnsToRun := by
  intro s hh _
  obtain ⟨l, r, f, he, hstate, hsame, -, hr⟩ := State.wake_eq hh
  rw [he]
  exact ⟨rfl, hr, hstate, hsame, rfl, rfl, rfl⟩

end Sys2Proof.Machine
end

section
/-! PROOFS. The register window: which register an offset names, what each reads after reset, and what the writes and the two
checked reads do. -/

namespace Sys2Proof.Machine

set_option Elab.async false

variable {s t u : State}

/-! ## Reads after reset -/

/-- The offset of a register (R175). -/
def Reg.offset : Reg → Nat
  | .id => 0x000
  | .gctl => 0x004
  | .gstat => 0x008
  | .haltcause => 0x00C
  | .intstat => 0x010
  | .inten => 0x014
  | .cqmod => 0x018
  | .ldiv => 0x020
  | .lcfg => 0x024
  | .ltime => 0x028
  | .llim => 0x02C
  | .linkctl => 0x030
  | .linkstat => 0x034
  | .plctl => 0x040
  | .plist i => 0x080 + 4 * i.toNat
  | .lsn k => 0x100 + 4 * k.val
  | .stnsel => 0x110
  | .stndat => 0x114
  | .stnchg m => 0x118 + 4 * m.val
  | .mapbase => 0x130
  | .maplen => 0x134
  | .txbase n => 0x140 + 0x20 * n.val
  | .txsize n => 0x144 + 0x20 * n.val
  | .txprod n => 0x148 + 0x20 * n.val
  | .txcons n => 0x14C + 0x20 * n.val
  | .txstat n => 0x150 + 0x20 * n.val
  | .rxbase => 0x1C0
  | .rxsize => 0x1C4
  | .rxprod => 0x1C8
  | .rxcons => 0x1CC
  | .rxctl => 0x1D0
  | .cqbase => 0x1E0
  | .cqsize => 0x1E4
  | .cqhead => 0x1E8
  | .cqtail => 0x1EC
  | .cmd => 0x200
  | .cmdstat => 0x204
  | .fltkind => 0x220
  | .fltdesc => 0x224
  | .fltaddr => 0x228
  | .fltrel => 0x22C
  | .fltpend => 0x230
  | .counter c => 0x300 + 4 * counters11.idxOf c

theorem singleRegs_offset : ∀ p ∈ singleRegs, p.1 = p.2.offset := by decide

theorem ringReg_offset {n : Fin 4} {j : Nat} {r : Reg} (h : ringReg n j = some r) :
    r.offset = 0x140 + 0x20 * n.val + 4 * j := by
  unfold ringReg at h
  split_ifs at h with h0 h1 h2 h3 h4 <;> cases h <;> simp only [Reg.offset] <;> omega

theorem counters11_idxOf {i : Nat} {c : Counter} (h : counters11[i]? = some c) : counters11.idxOf c = i := by
  obtain ⟨hi, hc⟩ := List.getElem?_eq_some_iff.mp h
  rw [← hc]
  exact List.Nodup.idxOf_getElem (by decide) i hi

/-- An offset that names a register is the offset of that register (R175). -/
theorem regAt_offset {off : BitVec 12} {r : Reg} (h : regAt off = some r) : off.toNat = r.offset := by
  unfold regAt at h
  dsimp only at h
  split_ifs at h with h4 hp hl hs ht hc
  · cases h
    simp only [Reg.offset, BitVec.toNat_ofNat]
    omega
  · cases h
    simp only [Reg.offset, fin4]
    omega
  · cases h
    simp only [Reg.offset, fin4]
    omega
  · rw [ringReg_offset h]
    simp only [fin4]
    omega
  · obtain ⟨c, hc', rfl⟩ := Option.map_eq_some_iff.mp h
    simp only [Reg.offset, counters11_idxOf hc']
    omega
  · obtain ⟨p, hf, rfl⟩ := Option.map_eq_some_iff.mp h
    rw [← singleRegs_offset p (List.mem_of_find?_eq_some hf)]
    exact (beq_iff_eq.mp (List.find?_some (p := fun x : Nat × Reg => x.1 == off.toNat) hf)).symm

/-- What the registers that do not read 0 after reset read (13.2). -/
def Reg.resetValue : Reg → Word
  | .id => 0x00240001
  | .gctl => 4
  | .cqmod => 1
  | .ldiv => 104
  | .ltime => 0x00400004
  | .llim => 0x00000403
  | .txsize _ => 2
  | .rxsize => 2
  | .cqsize => 4
  | .cqtail => 0x00010000
  | _ => 0

theorem State.ring_reset (n : Fin 4) : State.reset.ring n = {} := Vector.getElem_replicate n.isLt
theorem State.lsn_reset (k : Fin 4) : State.reset.lsn k = {} := Vector.getElem_replicate k.isLt

theorem State.readReg_reset (r : Reg) : State.reset.readReg r = r.resetValue := by
  cases r with
  | plist i =>
    change 0#25 ++ (Vector.replicate 32 (0 : LineAddr))[i.toNat] = 0
    rw [Vector.getElem_replicate]; rfl
  | lsn k => exact congrArg ListenSlot.image (State.lsn_reset k)
  | stnchg m => exact BitVec.extractLsb'_zero
  | txbase n => exact congrArg Ring.base (State.ring_reset n)
  | txsize n => exact congrArg (fun r : Ring => 0#28 ++ r.size) (State.ring_reset n)
  | txprod n => exact congrArg (fun r : Ring => 0#24 ++ r.prod) (State.ring_reset n)
  | txcons n => exact congrArg (fun r : Ring => 0#24 ++ r.cons) (State.ring_reset n)
  | txstat n => exact congrArg (fun r : Ring => 0#27 ++ 0#1 ++ 0#2 ++ r.state.code) (State.ring_reset n)
  | counter c => cases c <;> rfl
  | _ => rfl

theorem State.station_reset {a : LineAddr} (h0 : a ≠ 0) (h127 : a ≠ 127) : State.reset.station a = {} := by
  have h0 : a.toNat ≠ 0 := fun e => h0 (BitVec.eq_of_toNat_eq (y := 0#7) e)
  have h127 : a.toNat ≠ 127 := fun e => h127 (BitVec.eq_of_toNat_eq (y := 127#7) e)
  simp [State.reset, State.station, freshRecords, Ne.symm h0, Ne.symm h127]

/-- Settles O6: each named register is at its own offset, and reads its reset value. -/
theorem resetRegisterValues : Obligations.ResetRegisterValues := by
  refine ⟨fun off => ?_, fun a h0 h127 => State.station_reset h0 h127⟩
  rw [State.hostRead_of_due _ _ State.reset_due, State.readAt, if_neg (by decide)]
  cases h : regAt off with
  | none =>
    have hne (k : BitVec 12) (r : Reg) (hk : regAt k = some r) : off ≠ k := fun e => by
      rw [e, hk] at h
      cases h
    have hsize : ¬(off = 0x144 ∨ off = 0x164 ∨ off = 0x184 ∨ off = 0x1A4 ∨ off = 0x1C4) :=
      not_or_intro (hne 0x144 (.txsize 0) (by decide)) (not_or_intro (hne 0x164 (.txsize 1) (by decide))
        (not_or_intro (hne 0x184 (.txsize 2) (by decide)) (not_or_intro (hne 0x1A4 (.txsize 3) (by decide))
          (hne 0x1C4 .rxsize (by decide)))))
    rw [if_neg (hne 0x000 .id (by decide)), if_neg (hne 0x004 .gctl (by decide)), if_neg (hne 0x018 .cqmod (by decide)),
      if_neg (hne 0x020 .ldiv (by decide)), if_neg (hne 0x028 .ltime (by decide)), if_neg (hne 0x02C .llim (by decide)),
      if_neg hsize, if_neg (hne 0x1E4 .cqsize (by decide)), if_neg (hne 0x1EC .cqtail (by decide))]
    rfl
  | some r =>
    have hoff : off = BitVec.ofNat 12 r.offset := by rw [← regAt_offset h, BitVec.ofNat_toNat, BitVec.setWidth_eq]
    subst hoff
    rw [Option.map_some, Option.getD_some, State.readReg_reset]
    clear h
    cases r with
    | plist i => revert i; decide
    | lsn k => revert k; decide
    | stnchg m => revert m; decide
    | txbase n => revert n; decide
    | txsize n => revert n; decide
    | txprod n => revert n; decide
    | txcons n => revert n; decide
    | txstat n => revert n; decide
    | counter c => cases c <;> rfl
    | _ => rfl

/-! ## Commands and doorbells -/

/-- Settles O43: each row of CMD is a write of its own op. -/
theorem commandWritesQueueUp : Obligations.CommandWritesQueueUp := by
  refine ⟨fun s op n t a h => ?_, fun s c => ⟨fun h => if_pos h, fun h => if_neg (Nat.not_lt.mpr h)⟩⟩
  have hw (o : BitVec 4) : Host.Outcome.next (s.access fun v => v.writeCmd { op := o, notify := n, tag := t, arg := a }) =
      (.next (s.due.wakeWrite.enqueue { op := o, notify := n, tag := t, arg := a }).settle :
        Host.Outcome State Fault Refusal) := congrArg _ (State.access_of_live _ h)
  exact ⟨hw 0, hw 1, hw 2, hw 3, hw 4, hw 5, hw 6, hw 7, hw 8, hw op⟩

/-- Settles O50: the bound of each doorbell is the size of its ring or queue. -/
theorem doorbellsRung : Obligations.DoorbellsRung := fun _ _ _ h =>
  ⟨congrArg _ (State.access_of_live _ h), congrArg _ (State.access_of_live _ h), congrArg _ (State.access_of_live _ h)⟩

/-! ## Writes that a lock may bar -/

theorem State.lockable_of_locked {locked : Bool} (f : State → State) (h : locked = true) :
    s.lockable locked f = s.lockedWrite := if_pos h

theorem State.lockable_of_open {locked : Bool} (f : State → State) (h : locked = false) :
    s.lockable locked f = f s := if_neg (by simp [h])

theorem State.ringLocked_iff (s : State) (n : Fin 4) : s.ringLocked n = true ↔ (s.ring n).state ≠ .stopped := by
  simp [State.ringLocked]

theorem State.ringLocked_of_stopped {n : Fin 4} (h : (s.ring n).state = .stopped) : s.ringLocked n = false := by
  simp [State.ringLocked, h]

theorem exec_txsizeWrite (n : Fin 4) (v : Word) (h : s.due.live = true) :
    exec (.txsizeWrite n v) s = .next (s.due.writeTxsize n v).settle := congrArg _ (State.access_of_live _ h)

theorem exec_rxsizeWrite (v : Word) (h : s.due.live = true) :
    exec (.rxsizeWrite v) s = .next (s.due.writeRxsize v).settle := congrArg _ (State.access_of_live _ h)

theorem exec_cqsizeWrite (v : Word) (h : s.due.live = true) :
    exec (.cqsizeWrite v) s = .next (s.due.writeCqsize v).settle := congrArg _ (State.access_of_live _ h)

/-- Settles O51: the lock decides, and a stored size is clamped. -/
theorem sizeWrites : Obligations.SizeWrites := by
  intro s n v h
  rw [exec_txsizeWrite n v h, exec_rxsizeWrite v h, exec_cqsizeWrite v h]
  refine ⟨fun hl => ?_, fun hs => ⟨_, rfl, ?_⟩, fun hl => ?_, fun hl => ?_, fun hl => ?_, fun hl => ?_⟩
  · rw [State.writeTxsize, State.lockable_of_locked _ ((s.due.ringLocked_iff n).mpr hl)]; rfl
  · rw [State.writeTxsize, State.lockable_of_open _ (State.ringLocked_of_stopped hs)]
    have hring := s.due.ring_setRing_self n { s.due.ring n with size := clampRingSize v, prod := 0, cons := 0 }
    refine ⟨hring, ?_⟩
    change 2 ≤ ((s.due.setRing n _).ring n).size.toNat ∧ ((s.due.setRing n _).ring n).size.toNat ≤ 8
    rw [hring]
    exact clampRingSize_bounds v
  · rw [State.writeRxsize, State.lockable_of_locked _ hl]; rfl
  · rw [State.writeRxsize, State.lockable_of_open _ hl]
  · rw [State.writeCqsize, State.lockable_of_locked _ hl]; rfl
  · rw [State.writeCqsize, State.lockable_of_open _ hl]

/-! ## Plain writes -/

theorem stnchgMask_getLsbD (m : Fin 4) (v : Word) {i : Nat} (hi : i < 128) :
    (stnchgMask m v).getLsbD i = (i / 32 == m.val && v.getLsbD (i % 32)) := by
  have hm := m.isLt
  simp only [stnchgMask, BitVec.getLsbD_shiftLeft, BitVec.truncate_eq_setWidth, BitVec.getLsbD_setWidth, hi,
    decide_true, Bool.true_and]
  by_cases hd : i / 32 = m.val
  · have hge : ¬i < 32 * m.val := by omega
    have hsub : i - 32 * m.val = i % 32 := by omega
    simp [hd, hge, hsub, show i % 32 < 128 by omega]
  · by_cases hlt : i < 32 * m.val
    · simp [hd, hlt]
    · have hbig : 32 ≤ i - 32 * m.val := by omega
      simp [hd, BitVec.getLsbD_of_ge v _ hbig]

/-- Settles O53: each write is its register's own effect. -/
theorem plainRegisterWrites : Obligations.PlainRegisterWrites := by
  intro s v h
  have hacc (f : State → State) : Host.Outcome.next (s.access f) =
      (.next (f s.due).settle : Host.Outcome State Fault Refusal) := congrArg _ (State.access_of_live f h)
  have hlsn (k : Fin 4) : exec (.lsnWrite k v) s = .next (s.due.writeLsn k v).settle := hacc _
  have hstndat : exec (.stndatWrite v) s = .next (s.due.writeStndat v).settle := hacc _
  refine ⟨hacc _, hacc _, hacc _, hacc _, fun m => ⟨_, hacc _, rfl, fun a => ?_⟩, fun h0 h127 => ⟨_, hstndat, ?_, ?_⟩,
    fun hr => ?_, fun k he => ?_, fun k he hne => ?_, fun k he ha hen => ?_, ?_⟩
  · have ha := a.isLt
    simp only [State.writeStnchg, State.setStn_stn, BitVec.getLsbD_and, BitVec.getLsbD_not, stnchgMask_getLsbD m v ha,
      ha, decide_true, Bool.true_and]
  · exact State.station_setStation_self _ h0 h127
  · exact fun b hb => State.station_setStation_other _ (Ne.symm hb)
  · rw [hstndat, State.writeStndat, State.setStation_reserved _ hr]
  · rw [hlsn, State.writeLsn, State.lockable_of_locked _ he]; rfl
  · rw [hlsn, State.writeLsn, State.lockable_of_open _ he, ListenSlot.written,
      if_neg (by rw [not_and_or]; exact hne)]
  · rw [hlsn, State.writeLsn, State.lockable_of_open _ he, ListenSlot.written, if_pos ⟨ha, hen⟩]
  · refine ⟨_, hacc _, rfl, rfl, rfl, fun hd => ?_, fun hd hu => ?_⟩
    · exact if_pos hd
    · exact (if_neg hd).trans (if_pos hu)

/-- Settles O54: the three writes act on the state as it stands, Halted or not. -/
theorem interruptAndCounterWrites : Obligations.InterruptAndCounterWrites := by
  intro s v hh
  have hacc (f : State → State) : Host.Outcome.next (s.accessInHalt f) =
      (.next (f s.due) : Host.Outcome State Fault Refusal) := congrArg _ (State.accessInHalt_of_not_held f hh)
  refine ⟨fun c => ⟨_, hacc _, Counters.get_put_self _ c 0, rfl, fun e he => Counters.get_put_other _ 0 (Ne.symm he)⟩,
    ⟨_, hacc _, rfl, rfl⟩, ⟨_, hacc _, rfl, fun hr => ?_, fun hr => ⟨?_, ?_, ?_⟩⟩⟩
  · simp [State.writeIntstat, hr]
  · simp [State.writeIntstat, hr]
  · simp only [State.writeIntstat, hr, if_true, State.setGlb_glb]
    ext i hi
    simp only [BitVec.getElem_and, BitVec.getElem_not]
    cases (IrqCause.halt.mask)[i] <;> simp
  · have hhalt : (s.due.writeIntstat v).halted = true := hr
    simp [State.intPin, hhalt]

/-! ## Reads that check parity -/

theorem State.enterHalt_of_running (c : HaltCause) (h : s.halted = false) :
    s.enterHalt c = ({ s with
        bus := { s.bus with abandoned := s.bus.abandoned ++ s.inFlight }
        tx := {}
        rx := {}
        frx := { s.frx with state := .hunt }
        wakeDet := .armed
        glb := { s.glb with power := .halt, haltCause := c } } : State).raise .halt := by
  simp [State.enterHalt, h]

theorem State.readChecked_of_passes (v : Word) {bad : Bool} (c : HaltCause) (h : bad = false ∨ s.live = false) :
    s.readChecked v bad c = s.setRead v := by
  rcases h with h | h
  · simp [State.readChecked, h]
  · simp [State.readChecked, h]

/-- A read that finds a parity error halts the controller, which keeps its tables (R159 to R161). -/
theorem State.readChecked_of_fails (v : Word) {bad : Bool} (c : HaltCause) (hb : bad = true) (hh : s.halted = false)
    (hd : s.held = false) : ∃ t : State, s.readChecked v bad c = t ∧ t.glb.power = .halt ∧ t.glb.haltCause = c ∧
      t.lde = false ∧ t.intPin = true ∧ t.stn = s.stn ∧ t.link = s.link ∧ t.listen = s.listen ∧ t.rings = s.rings := by
  have hl : s.live = true := s.live_iff.mpr ⟨hd, hh⟩
  refine ⟨_, rfl, ?_⟩
  have hread : s.readChecked v bad c = s.readHalts c := by simp [State.readChecked, hb, hl]
  rw [hread, State.readHalts, State.enterHalt_of_running c (by exact hh)]
  refine ⟨rfl, rfl, rfl, ?_, rfl, rfl, rfl, rfl⟩
  rw [State.intPin, State.halted_raise]
  exact Bool.or_true _

/-- Settles O55: the two reads share one check. -/
theorem protectedReads : Obligations.ProtectedReads := by
  intro s
  have hpass {bad : Bool} (h : bad = true ∨ s.due.halted = true ∨ s.due.held = true) :
      (!bad) = false ∨ s.due.live = false := by
    rcases h with h | h | h
    · exact .inl (by simp [h])
    · exact .inr (State.live_of_halted h)
    · exact .inr (State.live_of_held h)
  refine ⟨fun h => congrArg _ (State.readChecked_of_passes _ _ (hpass h)), fun h hh hd => ?_,
    fun k h => congrArg _ (State.readChecked_of_passes _ _ (hpass h)), fun k h hh hd => ?_⟩
  · obtain ⟨t, ht, hp, hc, hl, hi, hs, hk, -, -⟩ :=
      State.readChecked_of_fails (s := s.due) (s.due.readReg .stndat)
        (bad := !(s.due.station s.due.stn.sel).sound) .stationParity (by rw [h]; rfl) hh hd
    exact ⟨t, congrArg _ ht, hp, hc, hl, hi, hs, hk⟩
  · obtain ⟨t, ht, hp, hc, hl, hi, -, -, hs, hk⟩ :=
      State.readChecked_of_fails (s := s.due) (s.due.readReg (.lsn k))
        (bad := !(s.due.lsn k).sound) .listenParity (by rw [h]; rfl) hh hd
    exact ⟨t, congrArg _ ht, hp, hc, hl, hi, hs, hk⟩

end Sys2Proof.Machine
end

section
/-! PROOFS. Registers without a row of their own (chapter 13). -/

namespace Sys2Proof.Machine

set_option Elab.async false

variable {s t u : State}

/-! ## REGISTER_WRITE -/

theorem exec_registerWrite_of_live {off : BitVec 12} {r : Reg} (v : Word) (h : s.due.live = true)
    (hr : regAt off = some r) : exec (.registerWrite .word off v) s = .next (s.due.regWrite r v).settle := by
  obtain ⟨hheld, hhalt⟩ := State.live_iff _ |>.mp h
  change Host.Outcome.next _ = _
  simp [State.writeAt, hheld, hhalt, hr]

/-- A waiting command that only the anchor may execute is rejected when the role becomes member (R146). -/
theorem State.roleRejects_of_waiting {c : Cmd} {rest : List Cmd} (hr : s.line.role = .member)
    (hd : s.link.state = .disabled) (hq : s.cmd.queue = c :: rest) (hw : s.cmd.head = .waiting)
    (ho : anchorOnly c.op = true) : s.roleRejects = s.rejectHead c .role := by
  simp [State.roleRejects, hq, hr, hw, ho, hd]

theorem State.roleRejects_of_empty (hq : s.cmd.queue = []) : s.roleRejects = s := by
  simp [State.roleRejects, hq]

/-- A rejected head without NOTIFY leaves the queue at once; CMDSTAT and INTSTAT say why (R148, R149). -/
theorem State.rejectHead_of_silent {c : Cmd} {rest : List Cmd} (e : CmdError) (hq : s.cmd.queue = c :: rest)
    (hn : c.notify = false) (ho : c.op ≠ opFence) : s.rejectHead c e = (s.commandError e c.tag).popCommand :=
  State.endCommand_of_silent (s := s.commandError e c.tag) _ hq hn ho

theorem State.lcfgLocked_of_enabled (v : Word) (h : s.link.en = true) : s.lcfgLocked v = true := by
  simp [State.lcfgLocked, h]

/-- Settles O56: each offset selects its register, whose lock decides what is stored. -/
theorem otherRegisterWrites : Obligations.OtherRegisterWrites := by
  intro s v hlive write locked role
  have hw {off : BitVec 12} {r : Reg} (hr : regAt off = some r) : write off = .next (s.due.regWrite r v).settle :=
    exec_registerWrite_of_live v hlive hr
  have hlock {off : BitVec 12} {r : Reg} (hr : regAt off = some r) (h : s.due.regWrite r v = s.due.lockedWrite) :
      write off = locked := by rw [hw hr, h]; rfl
  have hstore {off : BitVec 12} {r : Reg} {u : State} (hr : regAt off = some r) (h : s.due.regWrite r v = u) :
      write off = .next u.settle := by rw [hw hr, h]
  have hplist (i : BitVec 5) : regAt (0x080 + 4 * i.setWidth 12) = some (.plist i) := by revert i; decide
  have htxbase (n : Fin 4) : regAt (BitVec.ofNat 12 (0x140 + 0x20 * n.val)) = some (.txbase n) := by revert n; decide
  refine ⟨fun off => ⟨?_, fun hr => ?_⟩, fun hen off hoff => ?_, fun hen => ⟨?_, ?_, ?_, ?_, ?_, ?_⟩,
    fun i => ⟨fun hp => ?_, fun hp => ?_⟩, hw (r := .stnsel) (by decide), ?_, ?_,
    fun n => ⟨fun h => ?_, fun h => ?_⟩, ?_, ?_⟩
  · change Host.Outcome.next _ = _
    simp [State.writeAt]
  · change Host.Outcome.next _ = _
    simp [State.writeAt, hr]
  · rcases hoff with rfl | rfl | rfl | rfl
    · exact hlock (r := .ldiv) (by decide) (if_pos hen)
    · exact hlock (r := .lcfg) (by decide) (if_pos (State.lcfgLocked_of_enabled v hen))
    · exact hlock (r := .ltime) (by decide) (if_pos hen)
    · exact hlock (r := .llim) (by decide) (if_pos hen)
  · refine ⟨_, hstore (r := .ldiv) (by decide) (if_neg (ne_true_of_eq_false hen)), ?_⟩
    change (0#16 ++ storedDiv v : Word) = _
    unfold storedDiv
    split <;> rfl
  · exact hstore (r := .ltime) (by decide) (if_neg (ne_true_of_eq_false hen))
  · exact hstore (r := .llim) (by decide) (if_neg (ne_true_of_eq_false hen))
  · intro hslot hrole
    have hl : s.due.lcfgLocked v = true := by
      rw [State.lcfgLocked, hslot, hen, Bool.false_or, Bool.true_and]
      exact bne_iff_ne.mpr hrole
    exact hlock (r := .lcfg) (by decide) (if_pos hl)
  · intro hcase
    have hl : s.due.lcfgLocked v = false := by
      rcases hcase with hr | ⟨hslot, -⟩
      · rw [State.lcfgLocked, hen, show roleOf (v.getLsbD 0) = s.due.line.role from hr, bne_self_eq_false,
          Bool.and_false]
        rfl
      · simp [State.lcfgLocked, hen, hslot]
    refine hstore (r := .lcfg) (by decide) ((if_neg (ne_true_of_eq_false hl)).trans ?_)
    by_cases hr : s.due.line.role = role
    · exact if_pos hr
    · rcases hcase with h | ⟨-, hq⟩
      · exact absurd h.symm hr
      · exact (if_neg hr).trans (State.roleRejects_of_empty hq)
  · intro c rest hrole hanchor hslot hstate hq hhead hop hn
    have hl : s.due.lcfgLocked v = false := by simp [State.lcfgLocked, hen, hslot]
    have hr : ¬s.due.line.role = roleOf (v.getLsbD 0) := by
      rw [hanchor, show roleOf (v.getLsbD 0) = .member from hrole]
      decide
    have hanchorOnly : anchorOnly c.op = true := by rcases hop with h | h | h <;> rw [h] <;> rfl
    have hfence : c.op ≠ opFence := by rcases hop with h | h | h <;> rw [h] <;> decide
    refine ⟨_, hstore (r := .lcfg) (by decide) ((if_neg (ne_true_of_eq_false hl)).trans ((if_neg hr).trans
      ((State.roleRejects_of_waiting (by exact hrole) (by exact hstate) (by exact hq) (by exact hhead)
        hanchorOnly).trans
        (State.rejectHead_of_silent _ (by exact hq) hn hfence)))), hrole, ?_, rfl⟩
    simp [State.popCommand, State.commandError, State.raise, hq]
  · exact ⟨hlock (r := .plctl) (by decide) (if_pos hp),
      hlock (hplist i) (if_pos hp)⟩
  · refine ⟨hstore (r := .plctl) (by decide) (if_neg (ne_true_of_eq_false hp)), _,
      hstore (hplist i) (if_neg (ne_true_of_eq_false hp)), ?_, rfl, fun j hj => ?_⟩
    · exact Vector.getElem_set_self i.isLt
    · exact Vector.getElem_set_ne i.isLt j.isLt fun e => hj (BitVec.eq_of_toNat_eq e.symm)
  · exact ⟨_, hw (r := .mapbase) (by decide), rfl, rfl, rfl⟩
  · refine ⟨_, hw (r := .maplen) (by decide), ?_, rfl, rfl⟩
    change (0#19 ++ storedMapLen v : Word) = _
    unfold storedMapLen
    split <;> rfl
  · exact hlock (htxbase n) (if_pos ((s.due.ringLocked_iff n).mpr h))
  · exact hstore (htxbase n) (if_neg (ne_true_of_eq_false (State.ringLocked_of_stopped h)))
  · cases h : s.due.rxLocked with
    | true => exact hlock (r := .rxbase) (by decide) (if_pos h)
    | false => exact hstore (r := .rxbase) (by decide) (if_neg (ne_true_of_eq_false h))
  · cases h : s.due.cqLocked with
    | true => exact hlock (r := .cqbase) (by decide) (if_pos h)
    | false => exact hstore (r := .cqbase) (by decide) (if_neg (ne_true_of_eq_false h))

end Sys2Proof.Machine
end

section
/-! PROOFS. Commands written to an empty queue (chapter 9). -/

namespace Sys2Proof.Machine

set_option Elab.async false

variable {s t u : State} {c : Cmd}

/-! ## The run of one command -/

theorem State.pump_of_step (n : Nat) (hrun : s.halted = false) (h : s.headStep = some t) :
    State.pump (n + 1) s = State.pump n t := by
  simp [State.pump, hrun, h]

theorem State.pump_of_rest (n : Nat) (h : s.halted = true ∨ s.headStep = none) : State.pump n s = s := by
  cases n with
  | zero => rfl
  | succ n =>
    rcases h with h | h
    · simp [State.pump, h]
    · simp [State.pump, h]

/-- The blocking episode changes CQ's mark and INTSTAT alone (R138). -/
theorem State.noteBlocking_eq (s : State) : ∃ b i, s.noteBlocking =
    (s.setCq { s.cq with blocking := b }).setGlb { s.glb with intstat := s.glb.intstat ||| i } := by
  unfold State.noteBlocking
  split
  · exact ⟨true, IrqCause.cqfull.mask, rfl⟩
  · exact ⟨s.cq.blocking, 0, by rw [show s.glb.intstat ||| 0 = s.glb.intstat from BitVec.or_zero]; rfl⟩

theorem State.noteBlocking_of_empty (h : s.cq.holding = []) : s.noteBlocking = s := by
  simp [State.noteBlocking, State.headNeedsRecord, h]

/-- The state in which the command `c` alone waits. -/
def State.withCommand (s : State) (c : Cmd) : State := s.setCmd { s.cmd with queue := [c] }

/-- What a free queue does with a written command: the head runs, then a blocking episode may begin (R138, R146). -/
theorem State.settle_writeCmd_eq (h : s.CommandFree) (c : Cmd) :
    (s.writeCmd c).settle =
      let t := State.pump 8 (s.withCommand c)
      if t.halted then t else t.noteBlocking := by
  obtain ⟨hawake, ⟨hhold, hq⟩, -⟩ := h
  obtain ⟨-, hrun⟩ := s.live_iff.mp (State.live_of_awake hawake)
  rw [State.writeCmd, State.wakeWrite_of_awake hawake, State.enqueue_of_empty c hq, ← State.withCommand]
  have hhold' : (s.withCommand c).cq.holding = [] := hhold
  have hfuel : (s.withCommand c).pumpFuel = 8 := rfl
  unfold State.settle
  rw [if_neg (ne_true_of_eq_false (show (s.withCommand c).halted = false from hrun)), hhold']
  simp only [List.length_nil, State.settleQuiet, hfuel]

theorem State.settle_writeCmd_of_rest (h : s.CommandFree) (hp : State.pump 8 (s.withCommand c) = t)
    (hrun : t.halted = false) : (s.writeCmd c).settle = t.noteBlocking := by
  rw [State.settle_writeCmd_eq h, hp]
  exact if_neg (ne_true_of_eq_false hrun)

theorem State.settle_writeCmd_of_halt (h : s.CommandFree) (hp : State.pump 8 (s.withCommand c) = t)
    (hrun : t.halted = true) : (s.writeCmd c).settle = t := by
  rw [State.settle_writeCmd_eq h, hp]
  exact if_pos hrun

theorem State.CommandFree.halted (h : s.CommandFree) : s.halted = false :=
  (s.live_iff.mp (State.live_of_awake h.1)).2

/-- A fresh head that passes its checks begins (R146). -/
theorem State.pump_withCommand_of_passes (h : s.CommandFree) (hs : c.sound = true) (hc : s.headCheck c = .none) :
    State.pump 8 (s.withCommand c) = State.pump 7 ((s.withCommand c).beginHead c) :=
  State.pump_of_step _ h.halted (State.headStep_of_passes (s := s.withCommand c) rfl h.2.2 hs hc)

/-- A fresh head that fails a check is rejected (R146, R148). -/
theorem State.pump_withCommand_of_fails {e : CmdError} (h : s.CommandFree) (hs : c.sound = true)
    (hc : s.headCheck c = e) (he : e ≠ .none) :
    State.pump 8 (s.withCommand c) = State.pump 7 ((s.withCommand c).rejectHead c e) := by
  refine State.pump_of_step _ h.halted ?_
  have hhead : (s.withCommand c).cmd.head = .fresh := h.2.2
  have hcheck : (s.withCommand c).headCheck c = e := hc
  simp [State.headStep, show (s.withCommand c).cmd.queue = [c] from rfl, hhead, hs, hcheck, he]

theorem State.headStep_of_empty (hq : s.cmd.queue = []) : s.headStep = none := by simp [State.headStep, hq]

theorem State.headStep_of_reporting (h : s.cmd.head = .reporting) : s.headStep = none := by
  cases hq : s.cmd.queue <;> simp [State.headStep, hq, h]

/-- A command with NOTIFY, or a FENCE, ends with its COMMAND_DONE in the holding list (R147). -/
theorem State.endCommand_of_report {rest : List Cmd} (code : Code) (hq : s.cmd.queue = c :: rest)
    (h : c.notify = true ∨ c.op = opFence) : s.endCommand code = (s.join (c.doneEntry code)).setHead .reporting := by
  have h : (c.notify || c.op == opFence) = true := by simpa using h
  simp only [State.endCommand, hq, h, if_true]
  rfl

/-- A rejected command without NOTIFY leaves only its error behind (R148). -/
theorem State.settle_writeCmd_rejected {e : CmdError} (h : s.CommandFree) (hs : c.sound = true)
    (hc : s.headCheck c = e) (he : e ≠ .none) (hn : c.notify = false) (ho : c.op ≠ opFence) :
    (s.writeCmd c).settle = s.commandError e c.tag := by
  have ⟨_, ⟨hhold, hq⟩, hfresh⟩ := h
  have hend : (s.withCommand c).rejectHead c e = s.commandError e c.tag :=
    (State.rejectHead_of_silent (s := s.withCommand c) e rfl hn ho).trans
      (State.setCmd_of_empty_fresh (s := s.commandError e c.tag) hq hfresh)
  have hp : State.pump 8 (s.withCommand c) = s.commandError e c.tag := by
    rw [State.pump_withCommand_of_fails h hs hc he, hend]
    exact State.pump_of_empty _ hq
  rw [State.settle_writeCmd_of_rest h hp h.halted, State.noteBlocking_of_empty (by exact hhold)]

/-- A command that passes its checks and then waits for its event (R146). -/
theorem State.settle_writeCmd_begun (h : s.CommandFree) (hs : c.sound = true) (hc : s.headCheck c = .none)
    (hb : (s.withCommand c).beginHead c = t) (ht : t.headStep = none) (hr : t.halted = false) :
    (s.writeCmd c).settle = t.noteBlocking := by
  refine State.settle_writeCmd_of_rest h ?_ hr
  rw [State.pump_withCommand_of_passes h hs hc, hb, State.pump_of_rest _ (.inr ht)]

/-- A command that passes its checks, waits for its event and finds that it has come (R146). -/
theorem State.pump_withCommand_acts (h : s.CommandFree) (hs : c.sound = true) (hc : s.headCheck c = .none)
    (hb : (s.withCommand c).beginHead c = t) (hr : t.halted = false) (ht : t.headStep = some u)
    (hu : u.halted = true ∨ u.headStep = none) : State.pump 8 (s.withCommand c) = u := by
  rw [State.pump_withCommand_of_passes h hs hc, hb, State.pump_of_step _ hr ht, State.pump_of_rest _ hu]

/-! ## NOP and INVALIDATE CHANNEL -/

theorem State.beginHead_nop (s : State) (h : c.op = opNop) : s.beginHead c = s.endCommand .ok := by
  simp [State.beginHead, h]

theorem State.headCheck_nop (s : State) (h : c.op = opNop) : s.headCheck c = .none := by
  simp [State.headCheck, anchorOnly, badArgument, h, opNop, opInvalidateChannel, opLineBreak, opSyncAll,
    opStationReset, opRingStart, opRingStop]

theorem State.beginHead_invalidateChannel (s : State) (h : c.op = opInvalidateChannel) :
    s.beginHead c = (s.invalidate (c.arg.extractLsb' 0 12)).endCommand .ok := by
  simp [State.beginHead, h, opNop, opInvalidateChannel]

/-- A channel is a number below 4096 (R146). -/
theorem State.headCheck_invalidateChannel (s : State) (h : c.op = opInvalidateChannel) :
    s.headCheck c = if 4096 ≤ c.arg.toNat then .arg else .none := by
  simp [State.headCheck, anchorOnly, badArgument, h, opInvalidateChannel, opLineBreak, opSyncAll, opStationReset]

/-- The silent end of the only command, after work that left the queue alone. -/
theorem State.endCommand_withCommand_silent {code : Code} (h : t.CommandFree) (hn : c.notify = false)
    (ho : c.op ≠ opFence) : (t.withCommand c).endCommand code = t :=
  (State.endCommand_of_silent (s := t.withCommand c) code rfl hn ho).trans
    (State.setCmd_of_empty_fresh h.2.1.2 h.2.2)

/-- A command that completes at once without NOTIFY leaves its work alone behind (R147). -/
theorem State.settle_writeCmd_done {f : State → State} (h : s.CommandFree) (hs : c.sound = true)
    (hc : s.headCheck c = .none) (hb : (s.withCommand c).beginHead c = ((f s).withCommand c).endCommand .ok)
    (hf : (f s).CommandFree) (hn : c.notify = false) (ho : c.op ≠ opFence) : (s.writeCmd c).settle = f s := by
  rw [State.settle_writeCmd_begun h hs hc (hb.trans (State.endCommand_withCommand_silent hf hn ho))
    (State.headStep_of_empty hf.2.1.2) hf.halted, State.noteBlocking_of_empty hf.2.1.1]

/-- The state in which the only command has its COMMAND_DONE in the holding list. -/
def State.reporting (s : State) (c : Cmd) (code : Code) : State :=
  ((s.withCommand c).join (c.doneEntry code)).setHead .reporting

/-- A command that completes at once with NOTIFY stays at the head with its COMMAND_DONE in the list (R147). -/
theorem State.settle_writeCmd_reports {f : State → State} (h : s.CommandFree) (hs : c.sound = true)
    (hc : s.headCheck c = .none) (hb : (s.withCommand c).beginHead c = ((f s).withCommand c).endCommand .ok)
    (hf : (f s).CommandFree) (hn : c.notify = true) :
    (s.writeCmd c).settle = ((f s).reporting c .ok).noteBlocking :=
  State.settle_writeCmd_begun h hs hc (hb.trans (State.endCommand_of_report _ rfl (.inl hn)))
    (State.headStep_of_reporting rfl) hf.halted

/-- A rejected command with NOTIFY stays at the head, and its COMMAND_DONE says REJECTED (R148). -/
theorem State.settle_writeCmd_reports_rejected {e : CmdError} (h : s.CommandFree) (hs : c.sound = true)
    (hc : s.headCheck c = e) (he : e ≠ .none) (hn : c.notify = true) :
    (s.writeCmd c).settle = ((s.commandError e c.tag).reporting c .rejected).noteBlocking := by
  refine State.settle_writeCmd_of_rest h ?_ (show _ = false from h.halted)
  have hend : (s.withCommand c).rejectHead c e = (s.commandError e c.tag).reporting c .rejected :=
    State.endCommand_of_report (s := (s.withCommand c).commandError e c.tag) _ rfl (.inl hn)
  rw [State.pump_withCommand_of_fails h hs hc he, hend, State.pump_of_rest _ (.inr (State.headStep_of_reporting rfl))]

/-- What stands while a COMMAND_DONE waits, a blocking episode or not. -/
theorem State.noteBlocking_reporting (s : State) (c : Cmd) (code : Code) (h : s.cq.holding = []) :
    let u := (s.reporting c code).noteBlocking
    u.cmd = { s.cmd with queue := [c], head := .reporting } ∧ u.map = s.map ∧ u.rings = s.rings ∧
      u.slots = s.slots ∧ u.cq.holding = [c.doneEntry code] ∧ ∃ i, u.glb.intstat = s.glb.intstat ||| i := by
  obtain ⟨b, i, hb⟩ := (s.reporting c code).noteBlocking_eq
  intro u
  have hu : u = _ := hb
  clear_value u
  subst hu
  simp only [State.reporting, State.setHead, State.join, State.withCommand, State.setGlb_cmd, State.setGlb_map,
    State.setGlb_rings, State.setGlb_slots, State.setGlb_cq, State.setGlb_glb, State.setCq_cmd, State.setCq_map,
    State.setCq_rings, State.setCq_slots, State.setCq_cq, State.setCq_glb, State.setCmd_cmd, State.setCmd_map,
    State.setCmd_rings, State.setCmd_slots, State.setCmd_cq, State.setCmd_glb, h, List.nil_append, true_and]
  exact ⟨i, rfl⟩

theorem exec_nop (notify : Bool) (t : Byte) (a : BitVec 16) (h : s.due.CommandFree) :
    exec (.nop notify t a) s = .next (s.due.writeCmd { op := opNop, notify := notify, tag := t, arg := a }).settle :=
  congrArg _ (State.access_of_live _ (State.live_of_awake h.1))

theorem exec_invalidateChannel (notify : Bool) (t : Byte) (a : BitVec 16) (h : s.due.CommandFree) :
    exec (.invalidateChannel notify t a) s =
      .next (s.due.writeCmd { op := opInvalidateChannel, notify := notify, tag := t, arg := a }).settle :=
  congrArg _ (State.access_of_live _ (State.live_of_awake h.1))

/-- Settles O45: the check of the argument decides, NOTIFY only what the end leaves. -/
theorem immediateCommandsComplete : Obligations.ImmediateCommandsComplete := by
  intro s t a h
  rw [exec_nop false t a h, exec_nop true t a h, exec_invalidateChannel false t a h, exec_invalidateChannel true t a h]
  have hhold := h.2.1.1
  refine ⟨?_, ⟨_, rfl, ?_⟩, fun ha => ?_, fun ha => ?_⟩
  · rw [State.settle_writeCmd_done (f := id) h rfl (State.headCheck_nop _ rfl) (State.beginHead_nop _ rfl) h rfl
      (show opNop ≠ opFence by decide)]
    rfl
  · rw [State.settle_writeCmd_reports (f := id) h rfl (State.headCheck_nop _ rfl) (State.beginHead_nop _ rfl) h rfl]
    obtain ⟨hcmd, hmap, hrings, -, hholding, -⟩ := State.noteBlocking_reporting s.due
      { op := opNop, notify := true, tag := t, arg := a } .ok hhold
    rw [id, hcmd]
    exact ⟨rfl, rfl, hmap, hrings, hholding⟩
  · have hcheck (notify : Bool) :
        s.due.headCheck { op := opInvalidateChannel, notify := notify, tag := t, arg := a } = .none := by
      rw [State.headCheck_invalidateChannel _ rfl]
      exact if_neg (Nat.not_le.mpr ha)
    have hfree : (s.due.invalidate (a.extractLsb' 0 12)).CommandFree := h
    refine ⟨?_, _, rfl, ?_⟩
    · rw [State.settle_writeCmd_done (f := fun v => v.invalidate (a.extractLsb' 0 12)) h rfl (hcheck false)
        (State.beginHead_invalidateChannel _ rfl) hfree rfl
        (show opInvalidateChannel ≠ opFence by decide)]
      rfl
    · rw [State.settle_writeCmd_reports (f := fun v => v.invalidate (a.extractLsb' 0 12)) h rfl (hcheck true)
        (State.beginHead_invalidateChannel _ rfl) hfree rfl]
      obtain ⟨hcmd, hmap, hrings, hslots, hholding, -⟩ :=
        State.noteBlocking_reporting (s.due.invalidate (a.extractLsb' 0 12))
          { op := opInvalidateChannel, notify := true, tag := t, arg := a } .ok hhold
      rw [hcmd]
      exact ⟨rfl, rfl, hmap, hrings, hslots, hholding⟩
  · have hcheck (notify : Bool) :
        s.due.headCheck { op := opInvalidateChannel, notify := notify, tag := t, arg := a } = .arg := by
      rw [State.headCheck_invalidateChannel _ rfl]
      exact if_pos ha
    refine ⟨⟨_, rfl, ?_⟩, _, rfl, ?_⟩
    · rw [State.settle_writeCmd_rejected h rfl (hcheck false) (by decide) rfl
        (show opInvalidateChannel ≠ opFence by decide)]
      refine ⟨rfl, ?_, rfl⟩
      rw [← h.2.1.2]; rfl
    · rw [State.settle_writeCmd_reports_rejected h rfl (hcheck true) (by decide) rfl]
      obtain ⟨hcmd, hmap, -, -, hholding, i, hi⟩ := State.noteBlocking_reporting (s.due.commandError .arg t)
        { op := opInvalidateChannel, notify := true, tag := t, arg := a } .rejected hhold
      rw [hcmd, hmap, hholding, hi]
      refine ⟨rfl, rfl, ?_, rfl⟩
      change (s.due.glb.intstat ||| IrqCause.cmderr.mask ||| i) &&& IrqCause.cmderr.mask = _
      ext j hj
      simp only [BitVec.getElem_and, BitVec.getElem_or]
      cases IrqCause.cmderr.mask[j] <;> simp

end Sys2Proof.Machine
end

section
/-! PROOFS. RING START, RING STOP and the other commands (R113 to R116, R146). -/

namespace Sys2Proof.Machine

set_option Elab.async false

variable {s t u : State} {c : Cmd} {n : Fin 4}

/-! ## RING START and RING STOP -/

/-- The argument that names ring `n`. -/
def ringArg (n : Fin 4) : BitVec 16 := BitVec.ofNat 16 n.val

theorem ringArg_toNat (n : Fin 4) : (ringArg n).toNat = n.val := by
  have := n.isLt
  simp [ringArg]
  omega

theorem Cmd.ring_of_arg (h : c.arg = ringArg n) : c.ring = n :=
  Fin.ext (by simp [Cmd.ring, h, ringArg_toNat, Nat.mod_eq_of_lt n.isLt])

theorem State.headCheck_ringCommand (s : State) (ho : c.op = opRingStart ∨ c.op = opRingStop)
    (ha : c.arg = ringArg n) :
    s.headCheck c = .none := by
  have hn := n.isLt
  rcases ho with ho | ho <;>
    simp [State.headCheck, anchorOnly, badArgument, ho, ha, ringArg_toNat, opInvalidateChannel, opLineBreak,
      opSyncAll, opStationReset, opRingStart, opRingStop, hn]

/-- A command that does not act at once waits for its event (R146). -/
theorem State.beginHead_waits (s : State) (h : c.op ≠ opNop ∧ c.op ≠ opInvalidateChannel ∧ c.op ≠ opInvalidateAll ∧
    c.op ≠ opFence) : s.beginHead c = s.setHead .waiting := by
  simp [State.beginHead, h]

theorem State.headStep_ringStart (hq : s.cmd.queue = [c]) (hw : s.cmd.head = .waiting) (ho : c.op = opRingStart)
    (hs : s.startWaits c.ring = false) : s.headStep = some (s.ringStartActs c) := by
  simp [State.headStep, hq, hw, ho, hs, opRingStart, opStationReset]

theorem State.headStep_ringStop (hq : s.cmd.queue = [c]) (hw : s.cmd.head = .waiting) (ho : c.op = opRingStop) :
    s.headStep = some (s.ringStopActs c) := by
  simp [State.headStep, hq, hw, ho, opRingStart, opRingStop, opStationReset]

theorem State.startWaits_of_empty (n : Fin 4) (h : s.cq.holding = []) : s.startWaits n = false := by
  simp [State.startWaits, State.noticeHeld, State.skippedHeld, h]

/-- The state in which the command `c` alone waits for its event. -/
def State.waitingFor (s : State) (c : Cmd) : State := (s.withCommand c).setHead .waiting

/-- The silent end of the only command, after work that left the queue alone, the head having waited. -/
theorem State.endCommand_waitingFor_silent {code : Code} (hq : t.cmd.queue = []) (hf : t.cmd.head = .fresh)
    (hn : c.notify = false) (ho : c.op ≠ opFence) : (t.waitingFor c).endCommand code = t :=
  (State.endCommand_of_silent (s := t.waitingFor c) code rfl hn ho).trans (State.setCmd_of_empty_fresh hq hf)

theorem State.rejectHead_waitingFor_silent (e : CmdError) (hq : t.cmd.queue = []) (hf : t.cmd.head = .fresh)
    (hn : c.notify = false) (ho : c.op ≠ opFence) : (t.waitingFor c).rejectHead c e = t.commandError e c.tag :=
  (State.endCommand_of_silent (s := (t.waitingFor c).commandError e c.tag) .rejected rfl hn ho).trans
    (State.setCmd_of_empty_fresh (s := t.commandError e c.tag) hq hf)

/-- A RING START written to a free queue acts at once (R113). -/
theorem State.settle_ringStart (h : s.CommandFree) (hs : c.sound = true) (ho : c.op = opRingStart)
    (ha : c.arg = ringArg n) (ht : (s.waitingFor c).ringStartActs c = t)
    (hr : t.halted = true ∨ t.headStep = none) : State.pump 8 (s.withCommand c) = t :=
  State.pump_withCommand_acts h hs (s.headCheck_ringCommand (.inl ho) ha)
    (State.beginHead_waits _ (by rw [ho]; decide)) h.halted
    (ht ▸ State.headStep_ringStart rfl rfl ho (State.startWaits_of_empty _ h.2.1.1)) hr

/-- A RING STOP written to a free queue acts at once (R114). -/
theorem State.settle_ringStop (h : s.CommandFree) (hs : c.sound = true) (ho : c.op = opRingStop)
    (ha : c.arg = ringArg n) (ht : (s.waitingFor c).ringStopActs c = t)
    (hr : t.halted = true ∨ t.headStep = none) : State.pump 8 (s.withCommand c) = t :=
  State.pump_withCommand_acts h hs (s.headCheck_ringCommand (.inr ho) ha)
    (State.beginHead_waits _ (by rw [ho]; decide)) h.halted
    (ht ▸ State.headStep_ringStop rfl rfl ho) hr

/-- RING START of ring `n` as its row writes it, without NOTIFY. -/
def ringStartCmd (tag : Byte) (n : Fin 4) : Cmd := { op := opRingStart, notify := false, tag := tag, arg := ringArg n }

/-- RING STOP of ring `n` as its row writes it, without NOTIFY. -/
def ringStopCmd (tag : Byte) (n : Fin 4) : Cmd := { op := opRingStop, notify := false, tag := tag, arg := ringArg n }

theorem ringStartCmd_ring (tag : Byte) (n : Fin 4) : (ringStartCmd tag n).ring = n := Cmd.ring_of_arg rfl
theorem ringStopCmd_ring (tag : Byte) (n : Fin 4) : (ringStopCmd tag n).ring = n := Cmd.ring_of_arg rfl
theorem ringStartCmd_op (tag : Byte) (n : Fin 4) : (ringStartCmd tag n).op ≠ opFence :=
  show opRingStart ≠ opFence by decide
theorem ringStopCmd_op (tag : Byte) (n : Fin 4) : (ringStopCmd tag n).op ≠ opFence :=
  show opRingStop ≠ opFence by decide

theorem exec_ringStart (tag : Byte) (n : Fin 4) (h : s.due.CommandFree) :
    exec (.ringStart false tag (ringArg n)) s = .next (s.due.writeCmd (ringStartCmd tag n)).settle :=
  congrArg _ (State.access_of_live _ (State.live_of_awake h.1))

theorem exec_ringStop (tag : Byte) (n : Fin 4) (h : s.due.CommandFree) :
    exec (.ringStop false tag (ringArg n)) s = .next (s.due.writeCmd (ringStopCmd tag n)).settle :=
  congrArg _ (State.access_of_live _ (State.live_of_awake h.1))

/-- Work that leaves the queue free again and posts nothing is all the command leaves behind. -/
theorem State.settle_writeCmd_of_free (h : s.CommandFree) (hp : State.pump 8 (s.withCommand c) = t)
    (ht : t.CommandFree) : (s.writeCmd c).settle = t := by
  rw [State.settle_writeCmd_of_rest h hp ht.halted, State.noteBlocking_of_empty ht.2.1.1]

theorem State.CommandFree.headStep (h : s.CommandFree) : s.headStep = none := State.headStep_of_empty h.2.1.2

theorem State.CommandFree.commandError (h : s.CommandFree) (e : CmdError) (tag : Byte) :
    (s.commandError e tag).CommandFree := h

theorem State.ringStartActs_of_stopped (h : (s.ring c.ring).state = .stopped) :
    s.ringStartActs c = (s.setRingState c.ring .running).endCommand .ok := by simp [State.ringStartActs, h]

theorem State.ringStartActs_of_running (h : (s.ring c.ring).state = .running) :
    s.ringStartActs c = s.endCommand .ok := by simp [State.ringStartActs, h]

theorem State.ringStartActs_of_barred (h : (s.ring c.ring).state = .stopping ∨ (s.ring c.ring).state = .faulted) :
    s.ringStartActs c = s.rejectHead c .state := by
  rcases h with h | h <;> simp [State.ringStartActs, h]

theorem State.ringStopActs_of_stopped (h : (s.ring c.ring).state = .stopped) :
    s.ringStopActs c = s.endCommand .ok := by simp [State.ringStopActs, h]

theorem State.ringStopActs_of_running (h : (s.ring c.ring).state = .running) :
    s.ringStopActs c = s.stopRunning c.ring := by simp [State.ringStopActs, h]

theorem State.ringStopActs_of_barred (h : (s.ring c.ring).state = .stopping ∨ (s.ring c.ring).state = .faulted) :
    s.ringStopActs c = s.rejectHead c .state := by
  rcases h with h | h <;> simp [State.ringStopActs, h]

theorem State.skippedHeld_of_empty (n : Fin 4) (h : s.cq.holding = []) : s.skippedHeld n = false := by
  simp [State.skippedHeld, h]

/-- A Running ring that holds neither a message nor a SKIPPED entry stops at once (R115). -/
theorem State.stopRunning_of_free (h : s.ringSlot n = none) (hs : s.cq.holding = []) :
    s.stopRunning n = (s.stopRing n).endCommand .ok := by
  simp [State.stopRunning, h, State.skippedHeld_of_empty n hs]

/-- What a ring that stops at once leaves behind, a blocking episode or not (R115). -/
theorem State.noteBlocking_stopRing (hn : s.cq.holding = []) (n : Fin 4) :
    let u := (s.stopRing n).noteBlocking
    u.ring n = { s.ring n with state := .stopped } ∧ u.cmd = s.cmd ∧ u.slots = s.slots ∧
      u.cq.holding = [{ kind := .ringStopped, waiter := .notice, ring := n, index := (s.ring n).cons }] := by
  obtain ⟨b, i, hb⟩ := (s.stopRing n).noteBlocking_eq
  intro u
  have hu : u = _ := hb
  clear_value u
  subst hu
  have hring : (s.setRingState n .stopped).ring n = { s.ring n with state := .stopped } := s.ring_setRing_self n _
  refine ⟨hring, rfl, rfl, ?_⟩
  change s.cq.holding ++ [(s.setRingState n .stopped).noticeEntry n] = _
  rw [hn, State.noticeEntry, hring]
  rfl

/-- A message that is being staged, or Ready and neither attempted nor in use, is abandoned (R115). -/
theorem State.stopRunning_of_abandoned {k : Fin 2} {m : Message} (hk : s.ringSlot n = some k) (hm : s.slot k = some m)
    (h : m.phase.staging = true ∨ (m.phase = .ready ∧ m.attempted = false ∧ s.link.x.slot ≠ some k)) :
    s.stopRunning n = ((s.abandonSlot k).stopRing n).endCommand .ok := by
  rcases h with h | ⟨hp, ha, hx⟩
  · simp [State.stopRunning, hk, hm, h]
  · simp [State.stopRunning, hk, hm, hp, ha, hx, SlotPhase.staging, SlotPhase.isFinishing]

/-- A message in use or finishing makes the ring Stopping, and the command waits (R116). -/
theorem State.stopRunning_of_busy {k : Fin 2} {m : Message} (hk : s.ringSlot n = some k) (hm : s.slot k = some m)
    (h : m.phase.isFinishing = true ∨ (m.phase = .ready ∧ s.link.x.slot = some k)) :
    s.stopRunning n = (s.setRingState n .stopping).setHead .stopping := by
  rcases h with h | ⟨hp, hx⟩
  · have hs : m.phase.staging = false := by cases hp : m.phase <;> simp_all [SlotPhase.staging, SlotPhase.isFinishing]
    simp [State.stopRunning, hk, hm, h, hs]
  · simp [State.stopRunning, hk, hm, hp, hx, SlotPhase.staging]

/-- A message between attempts is given STOPPED, once it is read (R116, R159). -/
theorem State.stopRunning_of_attempted {k : Fin 2} {m : Message} (hk : s.ringSlot n = some k) (hm : s.slot k = some m)
    (hp : m.phase = .ready) (ha : m.attempted = true) (hx : s.link.x.slot ≠ some k) :
    s.stopRunning n = s.checked (unsound (!m.sound) .stagingParity) fun s =>
      ((s.setRingState n .stopping).setHead .stopping).giveOutcome k .stopped := by
  simp [State.stopRunning, hk, hm, hp, ha, hx, SlotPhase.staging, SlotPhase.isFinishing]

theorem State.abandonSlot_of_message {k : Fin 2} {m : Message} (hm : s.slot k = some m) :
    ∃ b w, s.abandonSlot k = ((s.setBus b).setMap { s.map with walk := w }).setSlot k none := by
  unfold State.abandonSlot
  rw [hm]
  by_cases hd : s.dmaOpen = true <;> by_cases hp : m.phase = .translate
  · exact ⟨_, none, by simp only [hd, hp, if_true]; rfl⟩
  · exact ⟨{ s.bus with abandoned := s.bus.abandoned ++ m.dma }, s.map.walk, by
      simp only [hd, hp, if_true, if_false]; rfl⟩
  · exact ⟨s.bus, none, by simp only [hd, hp, if_true]; rfl⟩
  · exact ⟨s.bus, s.map.walk, by simp only [hd, hp, if_false]; rfl⟩

/-- A code that is no failure joins at once (R109). -/
theorem State.giveOutcome_of_no_failure {k : Fin 2} {m : Message} {code : Code} (hm : s.slot k = some m)
    (hc : code.failure = false) : s.giveOutcome k code = s.joinMessage k { m with code := code } := by
  simp [State.giveOutcome, hm, hc]

/-- The head waits while its ring is Stopping (R116). -/
theorem State.headStep_of_stopping (hq : s.cmd.queue = [c]) (hh : s.cmd.head = .stopping)
    (hr : (s.ring c.ring).state ≠ .stopped) : s.headStep = none := by
  simp [State.headStep, hq, hh, hr]

/-! ### What each case leaves -/

theorem State.settle_ringStart_stopped (h : s.CommandFree) (tag : Byte) (hr : (s.ring n).state = .stopped) :
    (s.writeCmd (ringStartCmd tag n)).settle = s.setRingState n .running := by
  have hfree : (s.setRingState n .running).CommandFree := h
  have hacts : (s.waitingFor (ringStartCmd tag n)).ringStartActs (ringStartCmd tag n) = s.setRingState n .running := by
    rw [State.ringStartActs_of_stopped (by rw [ringStartCmd_ring]; exact hr), ringStartCmd_ring]
    exact State.endCommand_waitingFor_silent hfree.2.1.2 hfree.2.2 rfl (ringStartCmd_op tag n)
  exact State.settle_writeCmd_of_free h (State.settle_ringStart h rfl rfl rfl hacts (.inr hfree.headStep)) hfree

theorem State.settle_ringStart_running (h : s.CommandFree) (tag : Byte) (hr : (s.ring n).state = .running) :
    (s.writeCmd (ringStartCmd tag n)).settle = s := by
  have hacts : (s.waitingFor (ringStartCmd tag n)).ringStartActs (ringStartCmd tag n) = s := by
    rw [State.ringStartActs_of_running (by rw [ringStartCmd_ring]; exact hr)]
    exact State.endCommand_waitingFor_silent h.2.1.2 h.2.2 rfl (ringStartCmd_op tag n)
  exact State.settle_writeCmd_of_free h (State.settle_ringStart h rfl rfl rfl hacts (.inr h.headStep)) h

theorem State.settle_ringStart_barred (h : s.CommandFree) (tag : Byte)
    (hr : (s.ring n).state = .stopping ∨ (s.ring n).state = .faulted) :
    (s.writeCmd (ringStartCmd tag n)).settle = s.commandError .state tag := by
  have hacts : (s.waitingFor (ringStartCmd tag n)).ringStartActs (ringStartCmd tag n) = s.commandError .state tag := by
    rw [State.ringStartActs_of_barred (by rw [ringStartCmd_ring]; exact hr)]
    exact State.rejectHead_waitingFor_silent .state h.2.1.2 h.2.2 rfl (ringStartCmd_op tag n)
  have hfree := h.commandError .state tag
  exact State.settle_writeCmd_of_free h (State.settle_ringStart h rfl rfl rfl hacts (.inr hfree.headStep)) hfree

theorem State.settle_ringStop_stopped (h : s.CommandFree) (tag : Byte) (hr : (s.ring n).state = .stopped) :
    (s.writeCmd (ringStopCmd tag n)).settle = s := by
  have hacts : (s.waitingFor (ringStopCmd tag n)).ringStopActs (ringStopCmd tag n) = s := by
    rw [State.ringStopActs_of_stopped (by rw [ringStopCmd_ring]; exact hr)]
    exact State.endCommand_waitingFor_silent h.2.1.2 h.2.2 rfl (ringStopCmd_op tag n)
  exact State.settle_writeCmd_of_free h (State.settle_ringStop h rfl rfl rfl hacts (.inr h.headStep)) h

theorem State.settle_ringStop_barred (h : s.CommandFree) (tag : Byte)
    (hr : (s.ring n).state = .stopping ∨ (s.ring n).state = .faulted) :
    (s.writeCmd (ringStopCmd tag n)).settle = s.commandError .state tag := by
  have hacts : (s.waitingFor (ringStopCmd tag n)).ringStopActs (ringStopCmd tag n) = s.commandError .state tag := by
    rw [State.ringStopActs_of_barred (by rw [ringStopCmd_ring]; exact hr)]
    exact State.rejectHead_waitingFor_silent .state h.2.1.2 h.2.2 rfl (ringStopCmd_op tag n)
  have hfree := h.commandError .state tag
  exact State.settle_writeCmd_of_free h (State.settle_ringStop h rfl rfl rfl hacts (.inr hfree.headStep)) hfree

theorem State.pump_ringStop_running (h : s.CommandFree) (tag : Byte) (hr : (s.ring n).state = .running)
    (ht : (s.waitingFor (ringStopCmd tag n)).stopRunning n = t) (hrest : t.halted = true ∨ t.headStep = none) :
    State.pump 8 (s.withCommand (ringStopCmd tag n)) = t := by
  refine State.settle_ringStop h rfl rfl rfl ?_ hrest
  rw [State.ringStopActs_of_running (by rw [ringStopCmd_ring]; exact hr), ringStopCmd_ring, ht]

theorem State.settle_ringStop_free (h : s.CommandFree) (tag : Byte) (hr : (s.ring n).state = .running)
    (hs : s.ringSlot n = none) : (s.writeCmd (ringStopCmd tag n)).settle = (s.stopRing n).noteBlocking := by
  have ⟨_, ⟨hhold, hq⟩, hfresh⟩ := h
  have hacts : (s.waitingFor (ringStopCmd tag n)).stopRunning n = s.stopRing n := by
    rw [State.stopRunning_of_free (by exact hs) (by exact hhold)]
    exact State.endCommand_waitingFor_silent (t := s.stopRing n) hq hfresh rfl (ringStopCmd_op tag n)
  exact State.settle_writeCmd_of_rest h
    (State.pump_ringStop_running h tag hr hacts (.inr (State.headStep_of_empty (by exact hq)))) h.halted

/-- Slot `k` holds `m`, the message of the Running ring `n`. -/
structure State.RunsMessage (s : State) (n : Fin 4) (k : Fin 2) (m : Message) : Prop where
  slot : s.ringSlot n = some k
  message : s.slot k = some m
  running : (s.ring n).state = .running

theorem State.RunsMessage.waitingFor {k : Fin 2} {m : Message} (h : s.RunsMessage n k m) (c : Cmd) :
    (s.waitingFor c).RunsMessage n k m := ⟨h.slot, h.message, h.running⟩

theorem State.setBus_waitingFor (s : State) (c : Cmd) (b : Bus) :
    (s.waitingFor c).setBus b = (s.setBus b).waitingFor c := rfl

theorem State.stopRing_waitingFor (s : State) (c : Cmd) (n : Fin 4) :
    (s.waitingFor c).stopRing n = (s.stopRing n).waitingFor c := rfl

theorem State.halted_stopRing (s : State) (n : Fin 4) : (s.stopRing n).halted = s.halted := rfl

theorem State.stopRing_cmd (s : State) (n : Fin 4) : (s.stopRing n).cmd = s.cmd := rfl

/-- A slot freed without a record, its transaction and its walk given up (R107). -/
def State.freed (s : State) (k : Fin 2) (b : Bus) (w : Option Walk) : State :=
  ((s.setBus b).setMap { s.map with walk := w }).setSlot k none

theorem State.halted_freed (s : State) (k : Fin 2) (b : Bus) (w : Option Walk) :
    (s.freed k b w).halted = s.halted := rfl
theorem State.freed_cmd (s : State) (k : Fin 2) (b : Bus) (w : Option Walk) : (s.freed k b w).cmd = s.cmd := rfl
theorem State.settle_ringStop_abandoned {k : Fin 2} {m : Message} (h : s.CommandFree) (tag : Byte)
    (hm : s.RunsMessage n k m)
    (hc : m.phase.staging = true ∨ (m.phase = .ready ∧ m.attempted = false ∧ s.link.x.slot ≠ some k)) :
    ∃ u : State, (s.writeCmd (ringStopCmd tag n)).settle = u ∧ u.slot k = none ∧ u.cmd.queue = [] ∧
      u.ring n = { s.ring n with state := .stopped } ∧
      u.cq.holding = [{ kind := .ringStopped, waiter := .notice, ring := n, index := (s.ring n).cons }] := by
  have ⟨_, ⟨hhold, hq⟩, hfresh⟩ := h
  have hw := hm.waitingFor (ringStopCmd tag n)
  obtain ⟨b, w, hb⟩ := State.abandonSlot_of_message hw.message
  have hb : (s.waitingFor (ringStopCmd tag n)).abandonSlot k = (s.freed k b w).waitingFor (ringStopCmd tag n) := by
    rw [hb, State.setBus_waitingFor]
    rfl
  have hcmd : ((s.freed k b w).stopRing n).cmd = s.cmd := by rw [State.stopRing_cmd, State.freed_cmd]
  have hq' : ((s.freed k b w).stopRing n).cmd.queue = [] := by rw [hcmd, hq]
  have hacts : (s.waitingFor (ringStopCmd tag n)).stopRunning n = (s.freed k b w).stopRing n := by
    rw [State.stopRunning_of_abandoned hw.slot hw.message hc, hb, State.stopRing_waitingFor]
    exact State.endCommand_waitingFor_silent hq' (by rw [hcmd, hfresh]) rfl (ringStopCmd_op tag n)
  obtain ⟨hring, hcmd', hslots, hholding⟩ := State.noteBlocking_stopRing (s := s.freed k b w) hhold n
  refine ⟨_, State.settle_writeCmd_of_rest h (State.pump_ringStop_running h tag hm.running hacts
    (.inr (State.headStep_of_empty hq')))
    (by rw [State.halted_stopRing, State.halted_freed, h.halted]), ?_,
    by rw [hcmd', State.freed_cmd, hq], hring, hholding⟩
  rw [State.slot, hslots]
  exact State.slot_setSlot_self _ k none

/-- The state in which RING STOP waits for its Stopping ring (R116). -/
def State.stoppingRing (s : State) (n : Fin 4) (c : Cmd) : State :=
  ((s.waitingFor c).setRingState n .stopping).setHead .stopping

theorem State.ring_stoppingRing (s : State) (n : Fin 4) (c : Cmd) :
    (s.stoppingRing n c).ring n = { s.ring n with state := .stopping } :=
  (s.waitingFor c).ring_setRing_self n _

theorem State.stoppingRing_slots (s : State) (n : Fin 4) (c : Cmd) : (s.stoppingRing n c).slots = s.slots := rfl
theorem State.stoppingRing_cq (s : State) (n : Fin 4) (c : Cmd) : (s.stoppingRing n c).cq = s.cq := rfl
theorem State.stoppingRing_cmd (s : State) (n : Fin 4) (c : Cmd) :
    (s.stoppingRing n c).cmd.queue = [c] ∧ (s.stoppingRing n c).cmd.head = .stopping := ⟨rfl, rfl⟩

theorem State.state_stoppingRing (s : State) (tag : Byte) (n : Fin 4) :
    ((s.stoppingRing n (ringStopCmd tag n)).ring (ringStopCmd tag n).ring).state ≠ .stopped := by
  rw [ringStopCmd_ring, State.ring_stoppingRing]
  exact fun e => nomatch e

theorem State.headStep_stoppingRing (s : State) (tag : Byte) (n : Fin 4) :
    (s.stoppingRing n (ringStopCmd tag n)).headStep = none :=
  State.headStep_of_stopping rfl rfl (s.state_stoppingRing tag n)

theorem State.settle_ringStop_busy {k : Fin 2} {m : Message} (h : s.CommandFree) (tag : Byte)
    (hm : s.RunsMessage n k m)
    (hc : m.phase.isFinishing = true ∨ (m.phase = .ready ∧ s.link.x.slot = some k)) :
    (s.writeCmd (ringStopCmd tag n)).settle = s.stoppingRing n (ringStopCmd tag n) := by
  have hacts : (s.waitingFor (ringStopCmd tag n)).stopRunning n = s.stoppingRing n (ringStopCmd tag n) :=
    State.stopRunning_of_busy (hm.waitingFor _).slot (hm.waitingFor _).message hc
  rw [State.settle_writeCmd_of_rest h (State.pump_ringStop_running h tag hm.running hacts
    (.inr (s.headStep_stoppingRing tag n))) (by exact h.halted)]
  exact State.noteBlocking_of_empty h.2.1.1

theorem State.halted_joinMessage (s : State) (k : Fin 2) (m : Message) : (s.joinMessage k m).halted = s.halted := rfl

theorem State.halted_stoppingRing (s : State) (n : Fin 4) (c : Cmd) : (s.stoppingRing n c).halted = s.halted := rfl

theorem State.joinMessage_cmd (s : State) (k : Fin 2) (m : Message) : (s.joinMessage k m).cmd = s.cmd := rfl

theorem State.settle_ringStop_attempted {k : Fin 2} {m : Message} (h : s.CommandFree) (tag : Byte)
    (hm : s.RunsMessage n k m) (hp : m.phase = .ready) (ha : m.attempted = true) (hx : s.link.x.slot ≠ some k)
    (hs : m.sound = true) :
    (s.writeCmd (ringStopCmd tag n)).settle =
      ((s.stoppingRing n (ringStopCmd tag n)).joinMessage k { m with code := .stopped }).noteBlocking := by
  have hacts : (s.waitingFor (ringStopCmd tag n)).stopRunning n =
      (s.stoppingRing n (ringStopCmd tag n)).joinMessage k { m with code := .stopped } := by
    have hgood : unsound (!m.sound) .stagingParity = none := by rw [hs]; rfl
    rw [State.stopRunning_of_attempted (hm.waitingFor _).slot (hm.waitingFor _).message hp ha hx, hgood,
      State.checked_none, ← State.stoppingRing]
    exact State.giveOutcome_of_no_failure (s := s.stoppingRing n (ringStopCmd tag n)) (code := .stopped) hm.message rfl
  have hrest : ((s.stoppingRing n (ringStopCmd tag n)).joinMessage k { m with code := .stopped }).headStep = none :=
    State.headStep_of_stopping (by rw [State.joinMessage_cmd]; rfl) (by rw [State.joinMessage_cmd]; rfl)
      (s.state_stoppingRing tag n)
  exact State.settle_writeCmd_of_rest h (State.pump_ringStop_running h tag hm.running hacts (.inr hrest))
    (by rw [State.halted_joinMessage, State.halted_stoppingRing, h.halted])

theorem State.settle_ringStop_unsound {k : Fin 2} {m : Message} (h : s.CommandFree) (tag : Byte)
    (hm : s.RunsMessage n k m) (hp : m.phase = .ready) (ha : m.attempted = true) (hx : s.link.x.slot ≠ some k)
    (hs : m.sound = false) :
    (s.writeCmd (ringStopCmd tag n)).settle = (s.waitingFor (ringStopCmd tag n)).enterHalt .stagingParity := by
  have hacts : (s.waitingFor (ringStopCmd tag n)).stopRunning n =
      (s.waitingFor (ringStopCmd tag n)).enterHalt .stagingParity := by
    rw [State.stopRunning_of_attempted (hm.waitingFor _).slot (hm.waitingFor _).message hp ha hx, hs]
    rfl
  have hhalt := (s.waitingFor (ringStopCmd tag n)).halted_enterHalt .stagingParity
  exact State.settle_writeCmd_of_halt h (State.pump_ringStop_running h tag hm.running hacts (.inl hhalt)) hhalt

/-- A joined message's slot and entry stand, a blocking episode or not. -/
theorem State.noteBlocking_joinMessage (k : Fin 2) (m : Message) (hh : s.cq.holding = []) :
    let u := (s.joinMessage k m).noteBlocking
    u.slot k = some { m with phase := .finishing .held } ∧ u.rings = s.rings ∧ u.cmd = s.cmd ∧
      u.cq.holding = [m.entry k] := by
  obtain ⟨b, i, hb⟩ := (s.joinMessage k m).noteBlocking_eq
  intro u
  have hu : u = _ := hb
  clear_value u
  subst hu
  refine ⟨State.slot_setSlot_self s k _, rfl, rfl, ?_⟩
  change s.cq.holding ++ [m.entry k] = _
  rw [hh, List.nil_append]

/-- Halt entry keeps the tables, the queues and the link (R161). -/
theorem State.enterHalt_keeps (c : HaltCause) (h : s.halted = false) :
    let u := s.enterHalt c
    u.glb.haltCause = c ∧ u.slots = s.slots ∧ u.rings = s.rings ∧ u.link = s.link ∧ u.stn = s.stn ∧
      u.listen = s.listen ∧ u.cq = s.cq ∧ u.cmd = s.cmd ∧ u.map = s.map ∧ u.rxp = s.rxp := by
  intro u
  have hu : u = _ := State.enterHalt_of_running c h
  clear_value u
  subst hu
  exact ⟨rfl, rfl, rfl, rfl, rfl, rfl, rfl, rfl, rfl, rfl⟩

/-- A message between attempts whose parity is sound has STOPPED, and its ring is Stopping (R116). -/
theorem State.ringStop_attempted_facts {k : Fin 2} {m : Message} (h : s.CommandFree) (tag : Byte)
    (hm : s.RunsMessage n k m) (hp : m.phase = .ready) (ha : m.attempted = true) (hx : s.link.x.slot ≠ some k)
    (hs : m.sound = true) :
    let u := (s.writeCmd (ringStopCmd tag n)).settle
    u.slot k = some { m with code := .stopped, phase := .finishing .held } ∧
      u.ring n = { s.ring n with state := .stopping } ∧ u.cmd.queue = [ringStopCmd tag n] ∧
      u.cmd.head = .stopping ∧ u.cq.holding = [({ m with code := .stopped } : Message).entry k] := by
  intro u
  have hu : u = _ := State.settle_ringStop_attempted h tag hm hp ha hx hs
  clear_value u
  subst hu
  obtain ⟨hslots, hrings, hcmd, hholding⟩ := State.noteBlocking_joinMessage
    (s := s.stoppingRing n (ringStopCmd tag n)) k { m with code := .stopped } h.2.1.1
  obtain ⟨hqueue, hhead⟩ := s.stoppingRing_cmd n (ringStopCmd tag n)
  refine ⟨hslots, ?_, by rw [hcmd, hqueue], by rw [hcmd, hhead], hholding⟩
  rw [State.ring, hrings]
  exact s.ring_stoppingRing n _

/-- One whose parity is unsound halts the controller (R159). -/
theorem State.ringStop_unsound_facts {k : Fin 2} {m : Message} (h : s.CommandFree) (tag : Byte)
    (hm : s.RunsMessage n k m) (hp : m.phase = .ready) (ha : m.attempted = true) (hx : s.link.x.slot ≠ some k)
    (hs : m.sound = false) :
    let u := (s.writeCmd (ringStopCmd tag n)).settle
    u.halted = true ∧ u.glb.haltCause = .stagingParity ∧ u.slots = s.slots ∧ u.rings = s.rings := by
  intro u
  have hu : u = _ := State.settle_ringStop_unsound h tag hm hp ha hx hs
  clear_value u
  subst hu
  obtain ⟨hcause, hslots, hrings, -⟩ := State.enterHalt_keeps (s := s.waitingFor (ringStopCmd tag n))
    .stagingParity h.halted
  exact ⟨State.halted_enterHalt _ _, hcause, hslots, hrings⟩

/-- Settles O46: the ring's state, and the phase of the message it holds, select the case. -/
theorem ringCommandsAct : Obligations.RingCommandsAct := by
  constructor
  · intro s tag n h hslot a
    have hstart := exec_ringStart tag n h
    have hstop := exec_ringStop tag n h
    refine ⟨fun hr => ⟨?_, ?_⟩, fun hr => ⟨?_, _, hstop, ?_⟩,
      fun hr => ⟨s.due.commandError .state tag, ?_, ?_, rfl, rfl, rfl⟩⟩
    · exact hstart.trans (congrArg _ (State.settle_ringStart_stopped h tag hr))
    · exact hstop.trans (congrArg _ (State.settle_ringStop_stopped h tag hr))
    · exact hstart.trans (congrArg _ (State.settle_ringStart_running h tag hr))
    · rw [State.settle_ringStop_free h tag hr hslot]
      obtain ⟨hring, hcmd, -, hholding⟩ := State.noteBlocking_stopRing h.2.1.1 n
      exact ⟨hring, by rw [hcmd, h.2.1.2], hholding⟩
    · exact hstart.trans (congrArg _ (State.settle_ringStart_barred h tag hr))
    · exact hstop.trans (congrArg _ (State.settle_ringStop_barred h tag hr))
  · intro s tag n k m h hslot hm hmr hrun c inUse
    have hstop : exec (.ringStop false tag c.arg) s = _ := exec_ringStop tag n h
    have hmsg : s.due.RunsMessage n k m := ⟨hslot, hm, hrun⟩
    refine ⟨fun hcase => ?_, fun hcase => ⟨_, hstop, ?_⟩, 
      fun hp ha hx => ⟨fun hs => ⟨_, hstop, ?_⟩, fun hs => ⟨_, hstop, ?_⟩⟩⟩
    · obtain ⟨u, hu, hfacts⟩ := State.settle_ringStop_abandoned h tag hmsg hcase
      exact ⟨u, hstop.trans (congrArg _ hu), hfacts⟩
    · rw [State.settle_ringStop_busy h tag hmsg hcase, State.stoppingRing_slots, State.stoppingRing_cq]
      obtain ⟨hqueue, hhead⟩ := s.due.stoppingRing_cmd n (ringStopCmd tag n)
      exact ⟨rfl, s.due.ring_stoppingRing n _, hqueue, hhead, h.2.1.1⟩
    · exact State.ringStop_attempted_facts h tag hmsg hp ha hx hs
    · exact State.ringStop_unsound_facts h tag hmsg hp ha hx hs

end Sys2Proof.Machine
end

section
/-! PROOFS. STATION RESET, FENCE, the line commands and an illegal op (R69, R95, R96, R146). -/

namespace Sys2Proof.Machine

set_option Elab.async false

variable {s t u : State} {c : Cmd} {n : Fin 4}

/-! ## STATION RESET -/

/-- The record of a station after STATION RESET (R69). -/
def Station.afterReset (r : Station) : Station :=
  { r with presence := .unknown, outSeq := false, inSeq := none, missCount := 0, resyncNeeded := true }

theorem State.station_setPresence_self {a : LineAddr} (p : Presence) (h0 : a ≠ 0) (h1 : a ≠ 127) :
    (s.setPresence a p).station a = { s.station a with presence := p } := by
  unfold State.setPresence
  split
  next h =>
    rcases h with h | h | h
    · rw [← h]
    · exact absurd h h0
    · exact absurd h h1
  next => exact State.station_setStation_self (s := s) { s.station a with presence := p } h0 h1

theorem State.station_setPresence_other {a b : LineAddr} (p : Presence) (h : a ≠ b) :
    (s.setPresence a p).station b = s.station b := by
  unfold State.setPresence
  split
  · rfl
  · exact State.station_setStation_other (s := s) { s.station a with presence := p } h

theorem State.station_resetStation_self {a : LineAddr} (h0 : a ≠ 0) (h1 : a ≠ 127) :
    (s.resetStation a).station a = (s.station a).afterReset := by
  unfold State.resetStation
  rw [State.station_setPresence_self _ h0 h1, State.station_setStation_self _ h0 h1]
  rfl

theorem State.station_resetStation_other {a b : LineAddr} (h : a ≠ b) :
    (s.resetStation a).station b = s.station b := by
  unfold State.resetStation
  rw [State.station_setPresence_other _ h, State.station_setStation_other _ h]

theorem State.setStation_frame (s : State) (a : LineAddr) (r : Station) :
    (s.setStation a r).cmd = s.cmd ∧ (s.setStation a r).cq = s.cq ∧ (s.setStation a r).glb = s.glb := by
  unfold State.setStation
  split <;> exact ⟨rfl, rfl, rfl⟩

theorem State.setPresence_frame (s : State) (a : LineAddr) (p : Presence) :
    (s.setPresence a p).cmd = s.cmd ∧ (s.setPresence a p).cq = s.cq ∧ (s.setPresence a p).halted = s.halted ∧
      (s.setPresence a p).awake = s.awake := by
  unfold State.setPresence
  split
  · exact ⟨rfl, rfl, rfl, rfl⟩
  · obtain ⟨hcmd, hcq, hglb⟩ := s.setStation_frame a { s.station a with presence := p }
    refine ⟨hcmd, hcq, ?_, ?_⟩
    · simp only [State.halted, State.raise, State.setGlb_glb, State.setStn_glb, hglb]
    · simp only [State.awake, State.held, State.raise, State.setGlb_glb, State.setStn_glb, hglb]

theorem State.CommandFree.resetStation (h : s.CommandFree) (a : LineAddr) : (s.resetStation a).CommandFree := by
  obtain ⟨hawake, ⟨hhold, hq⟩, hfresh⟩ := h
  let r : Station := { s.station a with outSeq := false, inSeq := none, missCount := 0, resyncNeeded := true }
  obtain ⟨hcmd, hcq, hglb⟩ := s.setStation_frame a r
  obtain ⟨hcmd', hcq', -, hawake'⟩ := (s.setStation a r).setPresence_frame a .unknown
  refine ⟨?_, ⟨?_, ?_⟩, ?_⟩
  · rw [State.resetStation, hawake', State.awake, State.held, hglb]
    exact hawake
  · rw [State.resetStation, hcq', hcq, hhold]
  · rw [State.resetStation, hcmd', hcmd, hq]
  · rw [State.resetStation, hcmd', hcmd, hfresh]

theorem State.resetStation_cmd (s : State) (a : LineAddr) : (s.resetStation a).cmd = s.cmd := by
  rw [State.resetStation, (State.setPresence_frame _ a .unknown).1, (s.setStation_frame a _).1]

theorem State.setStation_waitingFor (s : State) (c : Cmd) (a : LineAddr) (r : Station) :
    (s.waitingFor c).setStation a r = (s.setStation a r).waitingFor c := by
  unfold State.setStation
  split <;> rfl

theorem State.station_waitingFor (s : State) (c : Cmd) (a : LineAddr) : (s.waitingFor c).station a = s.station a := rfl

theorem State.setPresence_waitingFor (s : State) (c : Cmd) (a : LineAddr) (p : Presence) :
    (s.waitingFor c).setPresence a p = (s.setPresence a p).waitingFor c := by
  unfold State.setPresence
  rw [State.station_waitingFor]
  split
  · rfl
  · simp only [State.setStation_waitingFor]
    rfl

theorem State.resetStation_waitingFor (s : State) (c : Cmd) (a : LineAddr) :
    (s.waitingFor c).resetStation a = (s.resetStation a).waitingFor c := by
  unfold State.resetStation
  rw [State.station_waitingFor, State.setStation_waitingFor, State.setPresence_waitingFor]

/-- STATION RESET as its row writes it, without NOTIFY. -/
def stationResetCmd (tag : Byte) (a : BitVec 16) : Cmd := { op := opStationReset, notify := false, tag := tag, arg := a }

theorem State.headCheck_stationReset (tag : Byte) {a : BitVec 16} (hr : s.line.role = .anchor) (h1 : 1 ≤ a.toNat)
    (h126 : a.toNat ≤ 126) : s.headCheck (stationResetCmd tag a) = .none := by
  have hbad : badArgument (stationResetCmd tag a) = false := by
    have h0 : ¬a = 0#16 := fun e => by rw [e] at h1; exact absurd h1 (by decide)
    have hlt : ¬127 ≤ a.toNat := by omega
    simp [badArgument, stationResetCmd, opInvalidateChannel, opStationReset, h0, hlt]
  rw [State.headCheck, if_neg (show ¬9 ≤ (stationResetCmd tag a).op.toNat from (by decide : ¬9 ≤ opStationReset.toNat)), hr, hbad]
  rfl

/-- The head acts on a station that no exchange is about (R69). -/
theorem State.headStep_stationReset {c : Cmd} (hq : s.cmd.queue = [c]) (hw : s.cmd.head = .waiting)
    (ho : c.op = opStationReset) (hx : s.exchangeWith c.station = false) (hs : (s.station c.station).sound = true) :
    s.headStep = some ((s.resetStation c.station).endCommand .ok) := by
  simp [State.headStep, hq, hw, ho, hx, hs, unsound, State.checked]

theorem State.settle_stationReset (h : s.CommandFree) (tag : Byte) {a : BitVec 16} (hr : s.line.role = .anchor)
    (h1 : 1 ≤ a.toNat) (h126 : a.toNat ≤ 126) (hx : s.exchangeWith (a.extractLsb' 0 7) = false)
    (hs : (s.station (a.extractLsb' 0 7)).sound = true) :
    (s.writeCmd (stationResetCmd tag a)).settle = s.resetStation (a.extractLsb' 0 7) := by
  have hfree := h.resetStation (a.extractLsb' 0 7)
  have hstep : (s.waitingFor (stationResetCmd tag a)).headStep = some (s.resetStation (a.extractLsb' 0 7)) := by
    rw [State.headStep_stationReset (s := s.waitingFor (stationResetCmd tag a)) rfl rfl rfl hx hs,
      State.resetStation_waitingFor]
    exact congrArg some (State.endCommand_waitingFor_silent hfree.2.1.2 hfree.2.2 rfl
      (show opStationReset ≠ opFence by decide))
  exact State.settle_writeCmd_of_free h (State.pump_withCommand_acts h rfl
    (State.headCheck_stationReset tag hr h1 h126)
    (State.beginHead_waits _ (show opStationReset ≠ opNop ∧ opStationReset ≠ opInvalidateChannel ∧
      opStationReset ≠ opInvalidateAll ∧ opStationReset ≠ opFence by decide)) h.halted hstep (.inr hfree.headStep)) hfree

/-! ## FENCE -/

/-- FENCE as its row writes it, without NOTIFY. -/
def fenceCmd (tag : Byte) (a : BitVec 16) : Cmd := { op := opFence, notify := false, tag := tag, arg := a }

theorem State.headCheck_fence (s : State) (tag : Byte) (a : BitVec 16) : s.headCheck (fenceCmd tag a) = .none := by
  simp [State.headCheck, anchorOnly, badArgument, fenceCmd, opFence, opInvalidateChannel, opLineBreak, opSyncAll,
    opStationReset, opRingStart, opRingStop]

theorem State.beginHead_fence (s : State) (tag : Byte) (a : BitVec 16) :
    s.beginHead (fenceCmd tag a) = s.recordFence.setHead .fencing := by
  simp [State.beginHead, fenceCmd, opNop, opInvalidateChannel, opInvalidateAll, opFence]

theorem State.slot_recordFence (s : State) (k : Fin 2) :
    s.recordFence.slot k = (s.slot k).map fun m => { m with fenced := true } := by
  simp [State.recordFence, State.slot]

theorem State.recordFence_of_empty (h0 : s.slot 0 = none) (h1 : s.slot 1 = none) : s.recordFence = s := by
  have hslots : s.recordFence.slots = s.slots := by
    refine Vector.ext fun i hi => ?_
    have hslot (k : Fin 2) : s.recordFence.slot k = s.slot k := by
      rw [State.slot_recordFence]
      match k with
      | 0 => rw [h0]; rfl
      | 1 => rw [h1]; rfl
    exact hslot ⟨i, hi⟩
  change s.setSlots s.recordFence.slots = s
  rw [hslots]
  rfl

/-- A FENCE with an empty set ends at once (R96). -/
theorem State.settle_fence_empty (h : s.CommandFree) (tag : Byte) (a : BitVec 16) (h0 : s.slot 0 = none)
    (h1 : s.slot 1 = none) :
    (s.writeCmd (fenceCmd tag a)).settle = (s.reporting (fenceCmd tag a) .ok).noteBlocking := by
  have hb : (s.withCommand (fenceCmd tag a)).beginHead (fenceCmd tag a) =
      (s.withCommand (fenceCmd tag a)).setHead .fencing := by
    rw [State.beginHead_fence, State.recordFence_of_empty (by exact h0) (by exact h1)]
  have hempty : ((s.withCommand (fenceCmd tag a)).setHead .fencing).fenceEmpty = true := by
    have h0' : ((s.withCommand (fenceCmd tag a)).setHead .fencing).slot 0 = none := h0
    have h1' : ((s.withCommand (fenceCmd tag a)).setHead .fencing).slot 1 = none := h1
    simp [State.fenceEmpty, h0', h1']
  have hstep : ((s.withCommand (fenceCmd tag a)).setHead .fencing).headStep =
      some (s.reporting (fenceCmd tag a) .ok) := by
    have hend : ((s.withCommand (fenceCmd tag a)).setHead .fencing).endCommand .ok = s.reporting (fenceCmd tag a) .ok :=
      State.endCommand_of_report .ok rfl (.inr rfl)
    rw [← hend]
    exact if_pos hempty
  exact State.settle_writeCmd_of_rest h (State.pump_withCommand_acts h rfl (s.headCheck_fence tag a) hb h.halted hstep
    (.inr (State.headStep_of_reporting rfl))) (by exact h.halted)

/-- The state in which a FENCE waits for its set (R95). -/
def State.fencing (s : State) (c : Cmd) : State := (s.withCommand c).recordFence.setHead .fencing

theorem State.slot_fencing (s : State) (c : Cmd) (k : Fin 2) :
    (s.fencing c).slot k = (s.slot k).map fun m => { m with fenced := true } := (s.withCommand c).slot_recordFence k

theorem State.fencing_cq (s : State) (c : Cmd) : (s.fencing c).cq = s.cq := rfl
theorem State.fencing_cmd (s : State) (c : Cmd) : (s.fencing c).cmd = { s.cmd with queue := [c], head := .fencing } := rfl

theorem State.headStep_fencing (s : State) (c : Cmd) (h : s.anySlot = true) : (s.fencing c).headStep = none := by
  have hset : (s.fencing c).fenceEmpty = false := by
    have hslot : s.slot 0 ≠ none ∨ s.slot 1 ≠ none := by simpa [State.anySlot, Option.isSome_iff_ne_none] using h
    rw [State.fenceEmpty, State.slot_fencing, State.slot_fencing]
    rcases hslot with hk | hk
    · obtain ⟨m, hm⟩ := Option.ne_none_iff_exists'.mp hk
      simp [hm]
    · obtain ⟨m, hm⟩ := Option.ne_none_iff_exists'.mp hk
      simp [hm]
  simp [State.headStep, State.fencing_cmd, hset]

theorem State.settle_fence_waits (h : s.CommandFree) (tag : Byte) (a : BitVec 16) (hs : s.anySlot = true) :
    (s.writeCmd (fenceCmd tag a)).settle = s.fencing (fenceCmd tag a) := by
  rw [State.settle_writeCmd_begun h rfl (s.headCheck_fence tag a) (State.beginHead_fence _ tag a)
    (s.headStep_fencing _ hs) (by exact h.halted)]
  exact State.noteBlocking_of_empty h.2.1.1

/-! ## The line commands and illegal ops -/

/-- LINE BREAK or SYNC ALL as its row writes it, without NOTIFY. -/
def lineCmd (op : BitVec 4) (tag : Byte) (a : BitVec 16) : Cmd := { op := op, notify := false, tag := tag, arg := a }

/-- Only the anchor may send a line command (R146). -/
theorem State.headCheck_lineCmd (s : State) {op : BitVec 4} (tag : Byte) (a : BitVec 16)
    (ho : op = opLineBreak ∨ op = opSyncAll) :
    s.headCheck (lineCmd op tag a) = if s.line.role = .member then .role else .none := by
  rcases ho with rfl | rfl <;>
    simp [State.headCheck, anchorOnly, badArgument, lineCmd, opInvalidateChannel, opLineBreak, opSyncAll,
      opStationReset, opRingStart, opRingStop]

theorem lineCmd_op {op : BitVec 4} (tag : Byte) (a : BitVec 16) (ho : op = opLineBreak ∨ op = opSyncAll) :
    (lineCmd op tag a).op ≠ opNop ∧ (lineCmd op tag a).op ≠ opInvalidateChannel ∧
      (lineCmd op tag a).op ≠ opInvalidateAll ∧ (lineCmd op tag a).op ≠ opFence := by
  rcases ho with rfl | rfl <;> exact ⟨by simp [lineCmd, opLineBreak, opSyncAll, opNop], by
    simp [lineCmd, opLineBreak, opSyncAll, opInvalidateChannel], by
    simp [lineCmd, opLineBreak, opSyncAll, opInvalidateAll], by simp [lineCmd, opLineBreak, opSyncAll, opFence]⟩

/-- A line command at the head waits for the Link Engine (R51, R52). -/
theorem State.headStep_of_line {c : Cmd} (hq : s.cmd.queue = [c]) (hw : s.cmd.head = .waiting)
    (ho : c.op = opLineBreak ∨ c.op = opSyncAll) : s.headStep = none := by
  rcases ho with ho | ho <;>
    simp [State.headStep, hq, hw, ho, opLineBreak, opSyncAll, opStationReset, opRingStart, opRingStop]

/-- At the anchor a line command waits for its break or SYNC (R51, R52). -/
theorem State.settle_lineCmd_waits (h : s.CommandFree) {op : BitVec 4} (tag : Byte) (a : BitVec 16)
    (ho : op = opLineBreak ∨ op = opSyncAll) (hr : s.line.role = .anchor) :
    (s.writeCmd (lineCmd op tag a)).settle = s.waitingFor (lineCmd op tag a) := by
  have hc : s.headCheck (lineCmd op tag a) = .none := by
    rw [s.headCheck_lineCmd tag a ho, hr]
    rfl
  rw [State.settle_writeCmd_begun h rfl hc (State.beginHead_waits _ (lineCmd_op tag a ho)) (State.headStep_of_line rfl rfl ho)
    (by exact h.halted)]
  exact State.noteBlocking_of_empty h.2.1.1

/-- At a member it is rejected (R146). -/
theorem State.settle_lineCmd_rejected (h : s.CommandFree) {op : BitVec 4} (tag : Byte) (a : BitVec 16)
    (ho : op = opLineBreak ∨ op = opSyncAll) (hr : s.line.role = .member) :
    (s.writeCmd (lineCmd op tag a)).settle = s.commandError .role tag := by
  refine State.settle_writeCmd_rejected h rfl ?_ (by decide) rfl (lineCmd_op tag a ho).2.2.2
  rw [s.headCheck_lineCmd tag a ho, hr]
  rfl

theorem State.headCheck_illegal (s : State) (tag : Byte) (a : BitVec 16) {op : BitVec 4} (h : 9 ≤ op.toNat) :
    s.headCheck (lineCmd op tag a) = .illegal := if_pos h

/-- Settles O47: each command's checks, and its first step. -/
theorem otherCommandsAct : Obligations.OtherCommandsAct := by
  intro s tag a h
  have hexec (c : Cmd) : Host.Outcome.next (s.access fun v => v.writeCmd c) =
      (.next (s.due.writeCmd c).settle : Host.Outcome State Fault Refusal) :=
    congrArg _ (State.access_of_live _ (State.live_of_awake h.1))
  refine ⟨fun hr h1 h126 hx hs => ⟨_, hexec (stationResetCmd tag a), ?_⟩,
    fun h0 h1 => ⟨_, hexec (fenceCmd tag a), ?_⟩, fun hany => ⟨_, hexec (fenceCmd tag a), ?_⟩,
    fun hr => ⟨(hexec (lineCmd opLineBreak tag a)).trans (congrArg _ (State.settle_lineCmd_waits h tag a (.inl rfl) hr)),
      (hexec (lineCmd opSyncAll tag a)).trans (congrArg _ (State.settle_lineCmd_waits h tag a (.inr rfl) hr))⟩,
    fun hr => ⟨s.due.commandError .role tag,
      (hexec (lineCmd opLineBreak tag a)).trans (congrArg _ (State.settle_lineCmd_rejected h tag a (.inl rfl) hr)),
      (hexec (lineCmd opSyncAll tag a)).trans (congrArg _ (State.settle_lineCmd_rejected h tag a (.inr rfl) hr)), rfl⟩,
    fun op hop => ⟨s.due.commandError .illegal tag, (hexec (lineCmd op tag a)).trans (congrArg _ ?_), rfl, rfl,
      h.2.1.1⟩⟩
  · rw [State.settle_stationReset h tag hr h1 h126 hx hs]
    have hnat : (a.extractLsb' 0 7).toNat = a.toNat := by
      rw [BitVec.extractLsb'_toNat, Nat.shiftRight_zero]
      omega
    have h0 : a.extractLsb' 0 7 ≠ 0 := fun e => by rw [e] at hnat; exact absurd hnat (by simp; omega)
    have h127 : a.extractLsb' 0 7 ≠ 127 := fun e => by rw [e] at hnat; exact absurd hnat (by simp; omega)
    exact ⟨s.due.resetStation_cmd _, State.station_resetStation_self h0 h127,
      fun b hb => State.station_resetStation_other (Ne.symm hb)⟩
  · rw [State.settle_fence_empty h tag a h0 h1]
    obtain ⟨hcmd, -, -, hslots, hholding, -⟩ := s.due.noteBlocking_reporting (fenceCmd tag a) .ok h.2.1.1
    rw [hcmd]
    exact ⟨rfl, hslots, hholding⟩
  · rw [State.settle_fence_waits h tag a hany, State.fencing_cq, State.fencing_cmd]
    refine ⟨rfl, h.2.1.1, fun k m hm => ?_⟩
    rw [State.slot_fencing, hm]
    rfl
  · exact State.settle_writeCmd_rejected h rfl (s.due.headCheck_illegal tag a hop) (by decide) rfl fun e => by
      have e : op = opFence := e
      rw [e] at hop
      exact absurd hop (by decide)

end Sys2Proof.Machine
end

section
/-! PROOFS. The Fault Unit and its releases (chapter 10). -/

namespace Sys2Proof.Machine

set_option Elab.async false

variable {s t u : State} {n : Fin 4}

/-! ## The order of the pending faults (R153) -/

/-- Sources of no higher class leave the candidate in place. -/
theorem FaultUnit.foldl_better_keeps (f : FaultUnit) {i : Fin 7} {g : FaultRecord} (l : List (Fin 7))
    (h : ∀ j ∈ l, ∀ q, f.waiting[j] = some q → ¬q.kind.rank < g.kind.rank) :
    l.foldl f.better (some (i, g)) = some (i, g) := by
  induction l with
  | nil => rfl
  | cons j l ih =>
    have hj : f.better (some (i, g)) j = some (i, g) := by
      unfold FaultUnit.better
      cases hq : f.waiting[j] with
      | none => rfl
      | some q => simp [h j (List.mem_cons_self ..) q hq]
    rw [List.foldl_cons, hj]
    exact ih fun k hk => h k (List.mem_cons_of_mem _ hk)

/-- Sources of a lower class leave no candidate, or one of a lower class. -/
theorem FaultUnit.foldl_better_lower (f : FaultUnit) (r : Nat) (l : List (Fin 7))
    (h : ∀ j ∈ l, ∀ q, f.waiting[j] = some q → r < q.kind.rank) (acc : Option (Fin 7 × FaultRecord))
    (ha : ∀ p ∈ acc, r < p.2.kind.rank) : ∀ p ∈ l.foldl f.better acc, r < p.2.kind.rank := by
  induction l generalizing acc with
  | nil => exact ha
  | cons j l ih =>
    refine ih (fun k hk => h k (List.mem_cons_of_mem _ hk)) _ ?_
    intro p hp
    have hj := h j (List.mem_cons_self ..)
    unfold FaultUnit.better at hp
    cases hq : f.waiting[j] with
    | none => rw [hq] at hp; exact ha p hp
    | some q =>
      have hlow := hj q hq
      cases acc with
      | none =>
        simp only [hq, Option.mem_def, Option.some.injEq] at hp
        rw [← hp]; exact hlow
      | some b =>
        simp only [hq, Option.mem_def] at hp
        split at hp <;> (rw [Option.some.injEq] at hp; rw [← hp])
        · exact hlow
        · exact ha b rfl

/-- A source replaces any candidate of a lower class. -/
theorem FaultUnit.better_takes (f : FaultUnit) {i : Fin 7} {g : FaultRecord} (hi : f.waiting[i] = some g)
    (acc : Option (Fin 7 × FaultRecord)) (ha : ∀ p ∈ acc, g.kind.rank < p.2.kind.rank) :
    f.better acc i = some (i, g) := by
  unfold FaultUnit.better
  cases acc with
  | none => simp only [hi]
  | some p => simp only [hi, ha p rfl, if_true]

/-- The pending fault that comes next is the best one (R153). -/
theorem FaultUnit.best_of_next {f : FaultUnit} {i : Fin 7} {g : FaultRecord} (h : f.Next i g) :
    f.best = some (i, g) := by
  obtain ⟨hi, hother⟩ := h
  let all : List (Fin 7) := [0, 1, 2, 3, 4, 5, 6]
  have hsplit : ∀ i : Fin 7, all = all.take i.val ++ i :: all.drop (i.val + 1) ∧ (∀ j ∈ all.take i.val, j < i) ∧
      ∀ j ∈ all.drop (i.val + 1), i < j := by decide
  obtain ⟨hall, hbefore, hafter⟩ := hsplit i
  have hlow := f.foldl_better_lower g.kind.rank (all.take i.val) (fun j hj q hq => by
    rcases hother j q hq (ne_of_lt (hbefore j hj)) with hlt | ⟨-, hij⟩
    · exact hlt
    · exact absurd hij (lt_asymm (hbefore j hj))) none (fun p hp => nomatch hp)
  have hstep := f.better_takes hi _ hlow
  change all.foldl f.better none = _
  rw [hall, List.foldl_append, List.foldl_cons, hstep]
  refine f.foldl_better_keeps _ fun j hj q hq => ?_
  rcases hother j q hq (ne_of_gt (hafter j hj)) with hlt | ⟨he, -⟩
  · exact Nat.lt_asymm hlt
  · exact he ▸ Nat.lt_irrefl _

theorem FaultUnit.best_of_empty : ({} : FaultUnit).best = none := rfl

/-! ## Posting -/

/-- A fault posted to an empty Fault Unit enters the record at once (R153). -/
theorem State.post_of_empty (f : FaultRecord) (h : s.flt = {}) :
    s.post f = (s.setFlt { record := some f }).setGlb { s.glb with intstat := s.glb.intstat ||| IrqCause.fault.mask } := by
  have hbest : ({ record := none, waiting := (Vector.replicate 7 none).set f.source.code (some f) } : FaultUnit).best =
      some (f.source.code, f) := by
    refine FaultUnit.best_of_next ⟨Vector.getElem_set_self f.source.code.isLt, fun j q hq hj => ?_⟩
    have hne : f.source.code.val ≠ j.val := fun e => hj (Fin.ext e.symm)
    have : ((Vector.replicate 7 (none : Option FaultRecord)).set f.source.code (some f))[j] = none := by
      simp [hne]
    exact absurd (hq.symm.trans this) (by simp)
  have hclear : ((Vector.replicate 7 (none : Option FaultRecord)).set f.source.code (some f)).set f.source.code none =
      Vector.replicate 7 none := by
    ext i hi
    simp
  simp only [State.post, State.present, h, State.setFlt_flt, hbest, hclear]
  rfl

/-- What a posted fault changes besides the Fault Unit: INTSTAT alone (R153). -/
theorem State.post_eq (s : State) (f : FaultRecord) :
    ∃ w i, s.post f = (s.setFlt w).setGlb { s.glb with intstat := s.glb.intstat ||| i } := by
  unfold State.post
  rcases State.present_cases (s.setFlt { s.flt with waiting := s.flt.waiting.set f.source.code (some f) }) with
    h | ⟨i, r, -, -, h⟩
  · refine ⟨{ s.flt with waiting := s.flt.waiting.set f.source.code (some f) }, 0, h.trans ?_⟩
    rw [show s.glb.intstat ||| 0 = s.glb.intstat from BitVec.or_zero]
    rfl
  · exact ⟨_, _, h⟩

/-! ## Presentation of the next fault -/

/-- With nothing pending a release leaves the Fault Unit empty (R155). -/
theorem State.nextFault_of_last {f : FaultRecord} (h : s.flt = { record := some f }) : s.nextFault = s.setFlt {} := by
  simp only [State.nextFault, State.present, h, State.setFlt_flt, FaultUnit.best_of_empty]

theorem State.nextFault_of_next {g : FaultRecord} {i : Fin 7} (h : s.flt.Next i g) :
    s.nextFault = (s.setFlt { record := some g, waiting := s.flt.waiting.set i none }).setGlb
      { s.glb with intstat := s.glb.intstat ||| IrqCause.fault.mask } :=
  State.nextFault_of_best (FaultUnit.best_of_next (f := { s.flt with record := none }) h)

/-! ## FLTPEND -/

/-- Seven flags below 25 zeros: the word of FLTPEND (R152). -/
def flagWord (a : Fin 7 → Bool) :=
  0#25 ++ BitVec.ofBool (a 6) ++ BitVec.ofBool (a 5) ++ BitVec.ofBool (a 4) ++ BitVec.ofBool (a 3) ++
    BitVec.ofBool (a 2) ++ BitVec.ofBool (a 1) ++ BitVec.ofBool (a 0)

theorem FaultUnit.pendWord_eq (f : FaultUnit) : f.pendWord = flagWord fun i => f.waiting[i].isSome := rfl

theorem flagWord_getLsbD_flag (a : Fin 7 → Bool) (i : Fin 7) : (flagWord a).getLsbD i.val = a i := by
  simp only [flagWord, BitVec.getLsbD_append, BitVec.getLsbD_ofBool]
  match i with
  | 0 => simp
  | 1 => simp
  | 2 => simp
  | 3 => simp
  | 4 => simp
  | 5 => simp
  | 6 => simp

theorem flagWord_getLsbD_high (a : Fin 7 → Bool) (i : Nat) : (flagWord a).getLsbD (7 + i) = false := by
  simp only [flagWord, BitVec.getLsbD_append, BitVec.getLsbD_ofBool, BitVec.getLsbD_zero]
  have h (k : Nat) (hk : k < 7) : ¬7 + i - k < 1 := by omega
  simp only [Nat.sub_sub, show ¬7 + i < 1 by omega, h 1 (by omega), h 2 (by omega), h 3 (by omega), h 4 (by omega),
    h 5 (by omega), h 6 (by omega), if_false, Nat.reduceAdd]

theorem FaultUnit.pendWord_getLsbD (f : FaultUnit) (i : Fin 7) : f.pendWord.getLsbD i.val = f.waiting[i].isSome := by
  rw [f.pendWord_eq]
  exact flagWord_getLsbD_flag _ i

theorem FaultUnit.pendWord_high (f : FaultUnit) : f.pendWord.extractLsb' 7 25 = 0#25 := by
  ext i hi
  rw [BitVec.getElem_extractLsb', f.pendWord_eq, BitVec.getElem_zero]
  exact flagWord_getLsbD_high _ i

end Sys2Proof.Machine
end

section
/-! PROOFS. The rows of FLTREL, and faults behind a presented one (R152 to R158). -/

namespace Sys2Proof.Machine

set_option Elab.async false

variable {s t u : State} {n : Fin 4}

/-! ## Completions that a slot waits for -/

/-- The slot of the one message in phase `p` (R103). -/
theorem State.findSlot_of_stagedIn {k : Fin 2} {m : Message} {p : SlotPhase} (h : s.StagedIn k m p) :
    s.findSlot (·.phase == p) = some k := by
  obtain ⟨hm, hp, -, hother⟩ := h
  match k with
  | 0 => simp [State.findSlot, hm, hp]
  | 1 =>
    have h0 : (s.slot 0).any (·.phase == p) = false := by
      change (s.slot 0).all (fun x => x.phase != p) = true at hother
      cases h0 : s.slot 0 with
      | none => rfl
      | some m0 => simpa [h0] using hother
    simp [State.findSlot, h0, hm, hp]

/-- A completion acts on the one sound message in its phase (R159). -/
theorem State.withPhase_of_stagedIn {k : Fin 2} {m : Message} {p : SlotPhase} (f : State → Fin 2 → Message → State)
    (h : s.StagedIn k m p) : s.withPhase p f = f s k m := by
  obtain ⟨hm, -, hs, -⟩ := id h
  simp [State.withPhase, State.findSlot_of_stagedIn h, hm, hs, unsound, State.checked]

/-- A completion that its unit waits for, and that leads to no Halt, acts and ends its event (log 7). -/
theorem State.dmaEvent_next {k : DmaKind} {f : State → State} (h : k ∈ s.due.inFlight) (ha : s.due.awake = true)
    (hh : (f s.due).halted = false) :
    Host.Outcome.next (s.dmaEvent .live k f) = (.next (f s.due).settle : Host.Outcome State Fault Refusal) := by
  rw [State.dmaEvent_live f h ha, State.finished_of_not_halted k hh]

theorem State.halted_of_awake (h : s.awake = true) : s.halted = false := (s.live_iff.mp (State.live_of_awake h)).2

/-! ## Staging faults -/

/-- What a staging fault leaves, another fault presented or not (R106, R153). -/
theorem State.stagingFault_eq (s : State) (k : Fin 2) (m : Message) (kind : FaultKind) (p : FaultPhase) (c : Channel)
    (a : Word) : ∃ w i, s.stagingFault k m kind p c a =
      (((s.setSlot k none).setRingState m.ring .faulted).setFlt w).setGlb
        { s.glb with intstat := s.glb.intstat ||| i } :=
  State.post_eq _ _

theorem State.stagingFault_of_record {k : Fin 2} {m : Message} {g : FaultRecord} (kind : FaultKind) (p : FaultPhase)
    (c : Channel) (a : Word) (h : s.flt.record = some g) :
    s.stagingFault k m kind p c a = ((s.setSlot k none).setRingState m.ring .faulted).setFlt { s.flt with
      waiting := s.flt.waiting.set (Source.tx m.ring).code (some {
        source := .tx m.ring, kind := kind, phase := p, index := m.index, chan := c, addr := a, ioc := m.ioc,
        cookie := m.cookie }) } :=
  State.post_of_record (s := (s.setSlot k none).setRingState m.ring .faulted) _ h

theorem State.halted_stagingFault (s : State) (k : Fin 2) (m : Message) (kind : FaultKind) (p : FaultPhase)
    (c : Channel) (a : Word) : (s.stagingFault k m kind p c a).halted = s.halted := by
  obtain ⟨w, i, h⟩ := s.stagingFault_eq k m kind p c a
  rw [h]; rfl

theorem State.fetchDone_error {k : Fin 2} {m : Message} (h : s.StagedIn k m .fetch) :
    s.fetchDone .error = s.stagingFault k m .descBus .fetch 0 m.txn :=
  State.withPhase_of_stagedIn _ h

/-! ## Releases -/

theorem State.stopIfFree_of_not_stopping (h : (s.ring n).state ≠ .stopping) : s.stopIfFree n = s := by
  simp [State.stopIfFree, h]

theorem State.stopIfFree_frame (s : State) (n : Fin 4) :
    (s.stopIfFree n).flt = s.flt ∧ (s.stopIfFree n).glb = s.glb := by
  unfold State.stopIfFree
  split
  · exact ⟨rfl, rfl⟩
  · exact ⟨rfl, rfl⟩

theorem State.release_frame (s : State) (e : Entry) : (s.release e).flt = s.flt ∧ (s.release e).glb = s.glb := by
  unfold State.release
  cases e.waiter with
  | slot k => exact State.stopIfFree_frame _ _
  | skipped b =>
    cases b with
    | false => exact State.stopIfFree_frame _ _
    | true => exact State.stopIfFree_frame _ _
  | notice => exact ⟨rfl, rfl⟩
  | command => exact ⟨rfl, rfl⟩

theorem State.discardHead_frame (s : State) : s.discardHead.flt = s.flt ∧ s.discardHead.glb = s.glb := by
  unfold State.discardHead
  split
  · exact ⟨rfl, rfl⟩
  · exact State.release_frame _ _

/-- The release of a FINISH fault whose message is sound (R111, R159). -/
theorem State.releaseFinish_of_sound {k : Fin 2} {m : Message} (hk : s.faultedSlot n = some k) (hm : s.slot k = some m)
    (hs : m.sound = true) :
    s.releaseFinish .resume n =
        (s.setRingState n (s.ring n).before).setSlot k (some { m with phase := .finishing .errWrite }) ∧
      s.releaseFinish .skip n = (s.setRingState n (s.ring n).before).joinMessage k { m with wbFailed := true } ∧
      s.releaseFinish .hold n = (s.setRingState n .stopping).joinMessage k { m with wbFailed := true } := by
  have hgood : unsound (!m.sound) .stagingParity = none := by rw [hs]; rfl
  simp only [State.releaseFinish, hk, hm, hgood, State.checked_none]
  exact ⟨trivial, trivial, trivial⟩

/-- The message of a FINISH fault that `f` presents is sound. -/
def State.FinishSound (s : State) (f : FaultRecord) : Prop :=
  ∀ (n : Fin 4) (k : Fin 2) (m : Message), f.source = .tx n → f.phase = .finish → s.faultedSlot n = some k →
    s.slot k = some m → m.sound = true

theorem State.releaseFinish_frame (a : Action) (h : ∀ k m, s.faultedSlot n = some k → s.slot k = some m → m.sound = true) :
    (s.releaseFinish a n).flt = s.flt ∧ (s.releaseFinish a n).glb = s.glb := by
  cases hk : s.faultedSlot n with
  | none => simp [State.releaseFinish, hk]
  | some k =>
    cases hm : s.slot k with
    | none => simp [State.releaseFinish, hk, hm]
    | some m =>
      obtain ⟨hresume, hskip, hhold⟩ := State.releaseFinish_of_sound hk hm (h k m hk hm)
      cases a with
      | resume => rw [hresume]; exact ⟨rfl, rfl⟩
      | skip => rw [hskip]; exact ⟨rfl, rfl⟩
      | hold => rw [hhold]; exact ⟨rfl, rfl⟩

/-- What the source does on a release touches neither the Fault Unit nor the global registers, where it reads no unsound
message (R156, R157). -/
theorem State.sourceActs_frame (a : Action) {f : FaultRecord} (h : s.FinishSound f) :
    (s.sourceActs a f).flt = s.flt ∧ (s.sourceActs a f).glb = s.glb := by
  unfold State.sourceActs
  cases hsrc : f.source with
  | integ => exact ⟨rfl, rfl⟩
  | cq =>
    cases a with
    | resume => exact ⟨rfl, rfl⟩
    | skip => exact s.discardHead_frame
    | hold => exact ⟨rfl, rfl⟩
  | rx => cases a <;> exact ⟨rfl, rfl⟩
  | tx n =>
    by_cases hp : f.phase = .finish
    · simp only [hp, if_true]
      exact State.releaseFinish_frame a fun k m => h n k m hsrc hp
    · simp only [hp, if_false]
      cases a <;> exact ⟨rfl, rfl⟩

/-- An accepted release: the source acts, and what is pending is presented (R155). -/
theorem State.releaseFault_of_allowed {a : Action} {f : FaultRecord} (hf : s.flt.record = some f)
    (ha : releaseAllowed a f = true) (hs : s.FinishSound f) (hh : s.halted = false) :
    s.releaseFault a = (s.sourceActs a f).nextFault := by
  have hhalt : (s.sourceActs a f).halted = false := by
    rw [State.halted, (State.sourceActs_frame a hs).2]
    exact hh
  simp only [State.releaseFault, hf, ha, if_true, State.unlessHalted_of_not _ hhalt]

theorem State.releaseFault_of_last {a : Action} {f : FaultRecord} (hf : s.flt = { record := some f })
    (ha : releaseAllowed a f = true) (hs : s.FinishSound f) (hh : s.halted = false) :
    s.releaseFault a = (s.sourceActs a f).setFlt {} := by
  rw [State.releaseFault_of_allowed (by rw [hf]) ha hs hh]
  exact State.nextFault_of_last ((State.sourceActs_frame a hs).1.trans hf)

theorem State.releaseFault_of_none (a : Action) (h : s.flt.record = none) : s.releaseFault a = s.releaseError := by
  simp [State.releaseFault, h]

theorem State.releaseFault_of_barred {a : Action} {f : FaultRecord} (hf : s.flt.record = some f)
    (ha : releaseAllowed a f = false) : s.releaseFault a = s.releaseError := by
  simp [State.releaseFault, hf, ha]

theorem exec_release (h : s.due.live = true) :
    exec .resume s = .next (s.due.releaseFault .resume).settle ∧ exec .skip s = .next (s.due.releaseFault .skip).settle ∧
      exec .hold s = .next (s.due.releaseFault .hold).settle :=
  ⟨congrArg _ (State.access_of_live _ h), congrArg _ (State.access_of_live _ h), congrArg _ (State.access_of_live _ h)⟩

theorem releaseAllowed_of_not_cq (a : Action) {f : FaultRecord} (h : f.source ≠ .cq) : releaseAllowed a f = true := by
  have : (f.source == .cq) = false := by simpa using h
  simp [releaseAllowed, this]

theorem State.sourceActs_staging (a : Action) {f : FaultRecord} (hf : f.source = .tx n) (hp : f.phase ≠ .finish) :
    s.sourceActs a f = s.releaseStaging a n f := by
  simp [State.sourceActs, hf, hp]

theorem State.sourceActs_finish (a : Action) {f : FaultRecord} (hf : f.source = .tx n) (hp : f.phase = .finish) :
    s.sourceActs a f = s.releaseFinish a n := by
  simp [State.sourceActs, hf, hp]

theorem State.finishSound_of_not_finish {f : FaultRecord} (h : f.phase ≠ .finish) : s.FinishSound f :=
  fun _ _ _ _ hp => absurd hp h

theorem State.finishSound_of_not_tx {f : FaultRecord} (h : ∀ n, f.source ≠ .tx n) : s.FinishSound f :=
  fun n _ _ hn => absurd hn (h n)

theorem State.ring_setRingState (s : State) (n : Fin 4) (st : RingState) :
    (s.setRingState n st).ring n = { s.ring n with state := st } := s.ring_setRing_self n _

/-! What each release of a staging fault leaves, the Fault Unit emptied (R156). -/

theorem State.releaseStaging_resume (s : State) (n : Fin 4) (f : FaultRecord) :
    let u := (s.releaseStaging .resume n f).setFlt {}
    u.ring n = { s.ring n with state := .running } ∧ u.cq = s.cq ∧ u.flt = {} ∧ u.glb = s.glb := by
  simp [State.releaseStaging, State.setRingState, State.setRing, State.ring]

theorem State.releaseStaging_skip (s : State) (n : Fin 4) (f : FaultRecord) :
    let u := (s.releaseStaging .skip n f).setFlt {}
    u.ring n = { s.ring n with state := .running } ∧ u.flt = {} ∧
      u.cq.holding = s.cq.holding ++ [skippedEntry n f] := by
  simp [State.releaseStaging, State.join, State.setRingState, State.setRing, State.ring]

theorem State.releaseStaging_hold (s : State) (n : Fin 4) (f : FaultRecord) :
    let u := (s.releaseStaging .hold n f).setFlt {}
    u.ring n = { s.ring n with state := .stopped } ∧ u.flt = {} ∧ u.cq.holding = s.cq.holding ++ [{
      kind := .ringStopped, waiter := .notice, ring := n, index := (s.ring n).cons }] := by
  simp [State.releaseStaging, State.stopRing, State.join, State.setRingState, State.setRing, State.ring,
    State.noticeEntry]

/-- Settles O48: a release of a staging fault is its source's act, then presentation. -/
theorem stagingFaultReleased : Obligations.StagingFaultReleased := by
  refine ⟨fun s f g => ⟨fun h => s.post_of_empty f h, fun h => State.post_of_record f h⟩,
    fun s i => ⟨s.flt.pendWord_getLsbD i, s.flt.pendWord_high⟩, fun s k m g ha hin hst hg => ?_,
    fun s f n hlive hflt hsrc hp => ?_⟩
  · have hfetch : s.due.fetchDone .error = _ :=
      (State.fetchDone_error hst).trans (State.stagingFault_of_record .descBus .fetch 0 m.txn hg)
    have hhalt : (s.due.fetchDone .error).halted = false := by rw [hfetch]; exact State.halted_of_awake ha
    refine ⟨_, State.dmaEvent_next hin ha hhalt, ?_⟩
    rw [hfetch]
    exact ⟨State.slot_setSlot_self _ k none, State.ring_setRingState _ m.ring .faulted, rfl, hg, rfl⟩
  · have hhalt := (State.live_iff _ |>.mp hlive).2
    have hne : f.source ≠ .cq := by rw [hsrc]; exact fun e => nomatch e
    have hrel (a : Action) : s.due.releaseFault a = (s.due.releaseStaging a n f).setFlt {} := by
      rw [State.releaseFault_of_last hflt (releaseAllowed_of_not_cq a hne) (State.finishSound_of_not_finish hp) hhalt,
        State.sourceActs_staging a hsrc hp]
    obtain ⟨hresume, hskip, hhold⟩ := exec_release hlive
    rw [hresume, hskip, hhold, hrel, hrel, hrel]
    exact ⟨⟨_, rfl, s.due.releaseStaging_resume n f⟩, ⟨_, rfl, s.due.releaseStaging_skip n f⟩,
      ⟨_, rfl, s.due.releaseStaging_hold n f⟩⟩

/-! ## CQ, receive, FINISH and INTEG faults -/

theorem State.sourceActs_rx (a : Action) {f : FaultRecord} (hf : f.source = .rx) : s.sourceActs a f = s.releaseRx a := by
  simp [State.sourceActs, hf]

theorem State.sourceActs_cq (a : Action) {f : FaultRecord} (hf : f.source = .cq) : s.sourceActs a f = s.releaseCq a := by
  simp [State.sourceActs, hf]

theorem State.sourceActs_integ (a : Action) {f : FaultRecord} (hf : f.source = .integ) : s.sourceActs a f = s := by
  simp [State.sourceActs, hf]

/-- The discarded entry leaves the list and the episode ends; what waited for it is released (R138, R139). -/
theorem State.discardHead_of_head {e : Entry} {rest : List Entry} (h : s.cq.holding = e :: rest) :
    s.discardHead = (s.setCq { s.cq with holding := rest, blocking := false }).release e := by
  simp [State.discardHead, h]

/-- Ring `n` with TXCONSn advanced (R100). -/
def Ring.advanced (r : Ring) : Ring := { r with cons := nextIndex r.cons r.size }

theorem State.ring_advanceCons (s : State) (n : Fin 4) : (s.advanceCons n).ring n = (s.ring n).advanced :=
  s.ring_setRing_self n _

theorem State.release_slot {e : Entry} {k : Fin 2} (hw : e.waiter = .slot k) (h : (s.ring e.ring).state ≠ .stopping) :
    s.release e = (s.advanceCons e.ring).setSlot k none := by
  have hring : (((s.advanceCons e.ring).setSlot k none).ring e.ring).state ≠ .stopping := by
    change ((s.advanceCons e.ring).ring e.ring).state ≠ .stopping
    rw [State.ring_advanceCons]
    exact h
  simp only [State.release, hw]
  exact State.stopIfFree_of_not_stopping hring

theorem State.release_skipped {e : Entry} {b : Bool} (hw : e.waiter = .skipped b)
    (h : (s.ring e.ring).state ≠ .stopping) : s.release e = if b then s.advanceCons e.ring else s := by
  simp only [State.release, hw]
  cases b with
  | false => exact State.stopIfFree_of_not_stopping h
  | true =>
    refine State.stopIfFree_of_not_stopping ?_
    rw [if_pos rfl, State.ring_advanceCons]
    exact h

theorem State.release_notice {e : Entry} (hw : e.waiter = .notice) : s.release e = s := by simp [State.release, hw]

theorem State.release_command {e : Entry} (hw : e.waiter = .command) : s.release e = s.popCommand := by
  simp [State.release, hw]

theorem State.release_cq {e : Entry} (h : (s.ring e.ring).state ≠ .stopping) : (s.release e).cq = s.cq := by
  cases hw : e.waiter with
  | slot k => rw [State.release_slot hw h]; rfl
  | skipped b =>
    rw [State.release_skipped hw h]
    cases b <;> rfl
  | notice => rw [State.release_notice hw]
  | command => rw [State.release_command hw]; rfl

/-- SKIP of a CQ fault, the discarded entry's ring not Stopping (R139). -/
theorem State.releaseFault_cqSkip_facts {f : FaultRecord} {e : Entry} {rest : List Entry}
    (hf : s.flt = { record := some f }) (hsrc : f.source = .cq) (hh : s.halted = false)
    (he : s.cq.holding = e :: rest) :
    s.releaseFault .skip = ((s.setCq { s.cq with holding := rest, blocking := false }).release e).setFlt {} := by
  have hns : s.FinishSound f := State.finishSound_of_not_tx fun n e => by rw [hsrc] at e; cases e
  have ha : releaseAllowed .skip f = true := rfl
  rw [State.releaseFault_of_last hf ha hns hh, State.sourceActs_cq _ hsrc]
  exact congrArg (State.setFlt · {}) (State.discardHead_of_head he)

theorem State.cqSkip_facts {e : Entry} {rest : List Entry} (h : (s.ring e.ring).state ≠ .stopping) :
    let u := ((s.setCq { s.cq with holding := rest, blocking := false }).release e).setFlt {}
    u.cq = { s.cq with holding := rest, blocking := false } ∧ u.flt = {} ∧
      (∀ k : Fin 2, e.waiter = .slot k →
        u.slot k = none ∧ u.ring e.ring = (s.ring e.ring).advanced ∧ u.cmd = s.cmd) ∧
      (e.waiter = .skipped true → u.slots = s.slots ∧ u.ring e.ring = (s.ring e.ring).advanced) ∧
      (e.waiter = .command → u.rings = s.rings ∧ u.cmd = { s.cmd with queue := s.cmd.queue.tail, head := .fresh }) := by
  have h' : ((s.setCq { s.cq with holding := rest, blocking := false }).ring e.ring).state ≠ .stopping := h
  refine ⟨State.release_cq h', rfl, fun k hw => ?_, fun hw => ?_, fun hw => ?_⟩
  · rw [State.release_slot hw h']
    simp [State.advanceCons, State.setRing, State.ring, State.setSlot, State.slot, Ring.advanced]
  · rw [State.release_skipped hw h']
    simp [State.advanceCons, State.setRing, State.ring, Ring.advanced]
  · rw [State.release_command hw]
    simp [State.popCommand]

/-! What each release of a FINISH fault leaves, the Fault Unit emptied (R156). -/

section
variable {k : Fin 2} {m : Message}

theorem State.releaseFinish_resume (hk : s.faultedSlot n = some k) (hm : s.slot k = some m) (hs : m.sound = true) :
    let u := (s.releaseFinish .resume n).setFlt {}
    u.flt = {} ∧ u.cq = s.cq ∧ u.ring n = { s.ring n with state := (s.ring n).before } ∧
      u.slot k = some { m with phase := .finishing .errWrite } := by
  rw [(State.releaseFinish_of_sound hk hm hs).1]
  simp [State.setRingState, State.setRing, State.ring, State.setSlot, State.slot]

theorem State.releaseFinish_skip (hk : s.faultedSlot n = some k) (hm : s.slot k = some m) (hs : m.sound = true) :
    let u := (s.releaseFinish .skip n).setFlt {}
    u.flt = {} ∧ u.ring n = { s.ring n with state := (s.ring n).before } ∧
      u.slot k = some { m with wbFailed := true, phase := .finishing .held } ∧
      u.cq.holding = s.cq.holding ++ [({ m with wbFailed := true } : Message).entry k] := by
  rw [(State.releaseFinish_of_sound hk hm hs).2.1]
  simp [State.joinMessage, State.join, State.setRingState, State.setRing, State.ring, State.setSlot, State.slot]

theorem State.releaseFinish_hold (hk : s.faultedSlot n = some k) (hm : s.slot k = some m) (hs : m.sound = true) :
    let u := (s.releaseFinish .hold n).setFlt {}
    u.flt = {} ∧ u.ring n = { s.ring n with state := .stopping } ∧
      u.slot k = some { m with wbFailed := true, phase := .finishing .held } ∧
      u.cq.holding = s.cq.holding ++ [({ m with wbFailed := true } : Message).entry k] := by
  rw [(State.releaseFinish_of_sound hk hm hs).2.2]
  simp [State.joinMessage, State.join, State.setRingState, State.setRing, State.ring, State.setSlot, State.slot]

end

/-- Settles O49: the source of the presented fault selects the act; the Fault Unit then presents what comes next. -/
theorem otherFaultsReleased : Obligations.OtherFaultsReleased := by
  refine ⟨fun s hlive => ⟨fun hnone c hc => ?_, fun f hf hsrc => ?_⟩, fun s f g i hlive hf hnext hfin c hc => ?_,
    fun s f hlive hflt => ?_⟩
  · obtain ⟨hresume, hskip, hhold⟩ := exec_release hlive
    rcases hc with rfl | rfl | rfl
    · rw [hresume, State.releaseFault_of_none _ hnone]; rfl
    · rw [hskip, State.releaseFault_of_none _ hnone]; rfl
    · rw [hhold, State.releaseFault_of_none _ hnone]; rfl
  · rw [(exec_release hlive).2.2, State.releaseFault_of_barred hf (by simp [releaseAllowed, hsrc])]; rfl
  · have hhalt := (State.live_iff _ |>.mp hlive).2
    have hrel {a : Action} (ha : releaseAllowed a f = true) :
        (s.due.releaseFault a).flt = { record := some g, waiting := s.due.flt.waiting.set i none } ∧
          (s.due.releaseFault a).glb = { s.due.glb with intstat := s.due.glb.intstat ||| IrqCause.fault.mask } := by
      obtain ⟨hflt, hglb⟩ := State.sourceActs_frame a hfin
      rw [State.releaseFault_of_allowed hf ha hfin hhalt,
        State.nextFault_of_next (s := s.due.sourceActs a f) (hflt ▸ hnext), hflt, hglb]
      exact ⟨rfl, rfl⟩
    obtain ⟨hresume, hskip, hhold⟩ := exec_release hlive
    rcases hc with rfl | rfl | ⟨rfl, hne⟩
    · exact ⟨_, hresume, hrel rfl⟩
    · exact ⟨_, hskip, hrel rfl⟩
    · exact ⟨_, hhold, hrel (releaseAllowed_of_not_cq _ hne)⟩
  · have hhalt := (State.live_iff _ |>.mp hlive).2
    obtain ⟨hresume, hskip, hhold⟩ := exec_release hlive
    rw [hresume, hskip, hhold]
    refine ⟨fun hsrc => ?_, fun hsrc => ⟨?_, fun e rest he hw => ?_⟩, fun hsrc e rest he hr => ?_,
      fun n k m hsrc hp hk hm hs => ?_, fun hsrc c hc => ?_⟩
    · have hrel (a : Action) : s.due.releaseFault a = (s.due.releaseRx a).setFlt {} := by
        rw [State.releaseFault_of_last hflt (releaseAllowed_of_not_cq a (by rw [hsrc]; exact fun e => nomatch e))
          (State.finishSound_of_not_tx fun n e => by rw [hsrc] at e; cases e) hhalt, State.sourceActs_rx a hsrc]
      rw [hrel, hrel, hrel]
      exact ⟨rfl, ⟨_, rfl, rfl, rfl, rfl⟩, rfl⟩
    · rw [State.releaseFault_of_last hflt rfl (State.finishSound_of_not_tx fun n e => by rw [hsrc] at e; cases e) hhalt,
        State.sourceActs_cq _ hsrc]
      rfl
    · rw [State.releaseFault_cqSkip_facts hflt hsrc hhalt he, State.release_notice hw]
      exact ⟨_, rfl, rfl, rfl⟩
    · rw [State.releaseFault_cqSkip_facts hflt hsrc hhalt he]
      exact ⟨_, rfl, State.cqSkip_facts hr⟩
    · have hfin : s.due.FinishSound f := fun n' k' m' hn _ hk' hm' => by
        obtain rfl : n' = n := Source.tx.inj (hn.symm.trans hsrc)
        obtain rfl : k' = k := Option.some.inj (hk'.symm.trans hk)
        rwa [Option.some.inj (hm'.symm.trans hm)]
      have hrel (a : Action) : s.due.releaseFault a = (s.due.releaseFinish a n).setFlt {} := by
        rw [State.releaseFault_of_last hflt (releaseAllowed_of_not_cq a (by rw [hsrc]; exact fun e => nomatch e)) hfin
          hhalt, State.sourceActs_finish a hsrc hp]
      rw [hrel, hrel, hrel]
      exact ⟨⟨_, rfl, State.releaseFinish_resume (m := m) hk hm hs⟩,
        ⟨_, rfl, State.releaseFinish_skip (m := m) hk hm hs⟩,
        ⟨_, rfl, State.releaseFinish_hold (m := m) hk hm hs⟩⟩
    · have hrel (a : Action) : s.due.releaseFault a = s.due.setFlt {} := by
        rw [State.releaseFault_of_last hflt (releaseAllowed_of_not_cq a (by rw [hsrc]; exact fun e => nomatch e))
          (State.finishSound_of_not_tx fun n e => by rw [hsrc] at e; cases e) hhalt, State.sourceActs_integ a hsrc]
      rcases hc with rfl | rfl | rfl
      · rw [hresume, hrel]
      · rw [hskip, hrel]
      · rw [hhold, hrel]

end Sys2Proof.Machine
end

section
/-! PROOFS. Completion records (chapter 8). -/

namespace Sys2Proof.Machine

set_option Elab.async false

variable {s t u : State} {n : Fin 4} {e : Entry} {rest : List Entry}

/-! ## What a release leaves of the holding list -/

theorem State.stopIfFree_cq (s : State) (n : Fin 4) :
    ∃ l, (s.stopIfFree n).cq = { s.cq with holding := s.cq.holding ++ l } ∧ ∀ x ∈ l, x.silent = false := by
  unfold State.stopIfFree
  split
  · refine ⟨[(s.setRingState n .stopped).noticeEntry n], rfl, fun x hx => ?_⟩
    rw [List.mem_singleton.mp hx]
    rfl
  · refine ⟨[], ?_, fun x hx => nomatch hx⟩
    rw [List.append_nil]

/-- Only RING_STOPPED notices join where an entry leaves (R116). -/
theorem State.release_cq_eq (s : State) (e : Entry) :
    ∃ l, (s.release e).cq = { s.cq with holding := s.cq.holding ++ l } ∧ ∀ x ∈ l, x.silent = false := by
  have hsame : ∃ l, s.cq = { s.cq with holding := s.cq.holding ++ l } ∧ ∀ x ∈ l, x.silent = false :=
    ⟨[], by rw [List.append_nil], fun x hx => nomatch hx⟩
  unfold State.release
  cases e.waiter with
  | slot k => exact ((s.advanceCons e.ring).setSlot k none).stopIfFree_cq e.ring
  | skipped b =>
    cases b with
    | false => exact s.stopIfFree_cq e.ring
    | true => exact (s.advanceCons e.ring).stopIfFree_cq e.ring
  | notice => exact hsame
  | command => exact hsame

theorem State.release_queue (h : s.cmd.queue = []) (e : Entry) : (s.release e).cmd.queue = [] := by
  have hstop (t : State) (n : Fin 4) : (t.stopIfFree n).cmd = t.cmd := by
    unfold State.stopIfFree
    split <;> rfl
  unfold State.release
  cases e.waiter with
  | slot k => rw [hstop]; exact h
  | skipped b => cases b <;> (rw [hstop]; exact h)
  | notice => exact h
  | command => simp [State.popCommand, h]

/-! ## Moderation (R140) -/

theorem State.moderate_eq (s : State) (ioc : Bool) : ∃ n t i, s.moderate ioc =
    (s.setCq { s.cq with unsignalled := n, timer := t }).setGlb { s.glb with intstat := s.glb.intstat ||| i } := by
  have hsame (t : State) : t = t.setGlb { t.glb with intstat := t.glb.intstat ||| 0 } := by
    rw [show t.glb.intstat ||| 0 = t.glb.intstat from BitVec.or_zero]; rfl
  unfold State.moderate
  dsimp only
  split
  · exact ⟨0, none, IrqCause.cq.mask, rfl⟩
  · split
    · exact ⟨satInc s.cq.unsignalled, some 0, 0, hsame _⟩
    · exact ⟨satInc s.cq.unsignalled, s.cq.timer, 0, hsame _⟩

/-- A record with IOC, or one that reaches COUNT, signals at once (R140). -/
theorem State.moderate_of_signal {ioc : Bool} (h : ioc = true ∨ s.cq.countEff ≤ (satInc s.cq.unsignalled).toNat) :
    s.moderate ioc = (s.setCq { s.cq with unsignalled := 0, timer := none }).raise .cq := by
  have : (ioc || decide (s.cq.countEff ≤ (satInc s.cq.unsignalled).toNat)) = true := by simpa using h
  simp only [State.moderate, this, if_true]

theorem State.moderate_of_wait {ioc : Bool} (hi : ioc = false) (h : (satInc s.cq.unsignalled).toNat < s.cq.countEff) :
    s.moderate ioc = s.setCq { s.cq with
      unsignalled := satInc s.cq.unsignalled,
      timer := if satInc s.cq.unsignalled = 1 ∧ s.cq.delay ≠ 0 then some 0 else s.cq.timer } := by
  have hn : ¬s.cq.countEff ≤ (satInc s.cq.unsignalled).toNat := Nat.not_le.mpr h
  simp only [State.moderate, hi, hn, decide_false, Bool.or_false, Bool.false_eq_true, if_false]
  split <;> rfl

/-! ## Record writes -/

/-- The state after steps 1 to 3 of R137: the record is in the queue and its entry has left. -/
def State.recordLeft (s : State) (e : Entry) (rest : List Entry) : State :=
  (s.setCq { s.cq.advanced with inFlight := none, holding := rest }).release e

theorem State.recordWritten_of_head (h : s.cq.holding = e :: rest) : s.recordWritten =
    ((s.recordLeft e rest).moderate e.ioc).setCq { ((s.recordLeft e rest).moderate e.ioc).cq with blocking := false } := by
  simp only [State.recordWritten, h]
  rfl

/-- What moderation and the end of an episode leave of the tables, and of the queue's own items. -/
theorem State.recordWritten_frame (h : s.cq.holding = e :: rest) :
    let v := s.recordLeft e rest
    let u := s.recordWritten
    u.rings = v.rings ∧ u.slots = v.slots ∧ u.cmd = v.cmd ∧ u.cq.tail = v.cq.tail ∧ u.cq.phase = v.cq.phase ∧
      u.cq.holding = v.cq.holding ∧ u.cq.inFlight = v.cq.inFlight ∧ u.cq.blocking = false ∧ u.halted = v.halted := by
  rw [State.recordWritten_of_head h]
  obtain ⟨n, t, i, hm⟩ := (s.recordLeft e rest).moderate_eq e.ioc
  rw [hm]
  exact ⟨rfl, rfl, rfl, rfl, rfl, rfl, rfl, rfl, rfl⟩

theorem State.recordLeft_halted (s : State) (e : Entry) (rest : List Entry) :
    (s.recordLeft e rest).halted = s.halted := by
  rw [State.halted, State.recordLeft, (State.release_frame _ e).2]
  rfl

theorem State.halted_recordWritten (h : s.cq.holding = e :: rest) : s.recordWritten.halted = s.halted :=
  (State.recordWritten_frame h).2.2.2.2.2.2.2.2.trans (s.recordLeft_halted e rest)

/-- Where no ring stops, the queue shows the record and the list is one entry shorter. -/
theorem State.recordLeft_cq (hw : e.waiter = .notice ∨ e.waiter = .command ∨ (s.ring e.ring).state ≠ .stopping) :
    (s.recordLeft e rest).cq = { s.cq.advanced with inFlight := none, holding := rest } := by
  rcases hw with hw | hw | hr
  · rw [State.recordLeft, State.release_notice hw]; rfl
  · rw [State.recordLeft, State.release_command hw]; rfl
  · rw [State.recordLeft, State.release_cq (by exact hr)]; rfl

/-- What moderation does after a written record. -/
theorem State.recordWritten_moderation (h : s.cq.holding = e :: rest) :
    let n : Byte := satInc s.cq.unsignalled
    let u := s.recordWritten
    (e.ioc = true ∨ s.cq.countEff ≤ n.toNat →
      u.cq.unsignalled = 0 ∧ u.cq.timer = none ∧ u.glb.intstat = s.glb.intstat ||| IrqCause.cq.mask) ∧
    (e.ioc = false → n.toNat < s.cq.countEff →
      u.cq.unsignalled = n ∧ u.cq.timer = (if n = 1 ∧ s.cq.delay ≠ 0 then some 0 else s.cq.timer) ∧
        u.glb.intstat = s.glb.intstat) := by
  intro n u
  obtain ⟨l, hcq, -⟩ := State.release_cq_eq (s.setCq { s.cq.advanced with inFlight := none, holding := rest }) e
  obtain ⟨-, hglb⟩ := State.release_frame (s.setCq { s.cq.advanced with inFlight := none, holding := rest }) e
  have hun : (s.recordLeft e rest).cq.unsignalled = s.cq.unsignalled := by rw [State.recordLeft, hcq]; rfl
  have hcount : (s.recordLeft e rest).cq.countEff = s.cq.countEff := by rw [State.recordLeft, hcq]; rfl
  have hdelay : (s.recordLeft e rest).cq.delay = s.cq.delay := by rw [State.recordLeft, hcq]; rfl
  have htimer : (s.recordLeft e rest).cq.timer = s.cq.timer := by rw [State.recordLeft, hcq]; rfl
  have hint : (s.recordLeft e rest).glb = s.glb := hglb
  have hu : u = _ := State.recordWritten_of_head h
  rw [hu]
  refine ⟨fun hs => ?_, fun hi hlt => ?_⟩
  · rw [State.moderate_of_signal (by rw [hcount, hun]; exact hs)]
    exact ⟨rfl, rfl, congrArg (fun g : Global => g.intstat ||| IrqCause.cq.mask) hint⟩
  · rw [State.moderate_of_wait hi (by rw [hcount, hun]; exact hlt)]
    have hn : n = satInc (s.recordLeft e rest).cq.unsignalled := congrArg satInc hun.symm
    refine ⟨hn.symm, ?_, congrArg Global.intstat hint⟩
    rw [← htimer, ← hdelay, hn]
    rfl

/-! ## The end of an event -/

theorem State.settleQuiet_of_loud (n : Nat) (h : (s.cq.holding.head?).any (·.silent) = false) :
    State.settleQuiet n s = s := by
  cases n with
  | zero => rfl
  | succ n =>
    cases hh : s.cq.holding with
    | nil => simp [State.settleQuiet, hh]
    | cons e rest =>
      have : e.silent = false := by simpa [hh] using h
      simp [State.settleQuiet, hh, this]

theorem State.settleQuiet_of_silent (n : Nat) (h : s.cq.holding = e :: rest) (he : e.silent = true) :
    State.settleQuiet (n + 1) s = State.settleQuiet n ((s.setCq { s.cq with holding := rest }).release e) := by
  simp [State.settleQuiet, h, he]

/-- With no command queued the end of an event lets silent entries leave and notes a blocked head. -/
theorem State.settle_of_no_command (hh : (State.settleQuiet s.cq.holding.length s).halted = false)
    (hs : s.halted = false) (hq : (State.settleQuiet s.cq.holding.length s).cmd.queue = []) :
    s.settle = (State.settleQuiet s.cq.holding.length s).noteBlocking := by
  simp only [State.settle, hs, State.pump_of_empty _ hq, hh, Bool.false_eq_true, if_false]

theorem State.settleQuiet_keeps (n : Nat) : ∀ {s : State}, s.cmd.queue = [] →
    (State.settleQuiet n s).cmd.queue = [] ∧ (State.settleQuiet n s).halted = s.halted := by
  induction n with
  | zero => exact fun h => ⟨h, rfl⟩
  | succ n ih =>
    intro s h
    cases hh : (s.cq.holding.head?).any (·.silent) with
    | false => rw [State.settleQuiet_of_loud _ hh]; exact ⟨h, rfl⟩
    | true =>
      cases hl : s.cq.holding with
      | nil => simp [hl] at hh
      | cons e rest =>
        rw [State.settleQuiet_of_silent n hl (by simpa [hl] using hh)]
        obtain ⟨hq, hhalt⟩ := ih (State.release_queue (s := s.setCq { s.cq with holding := rest }) h e)
        refine ⟨hq, hhalt.trans ?_⟩
        rw [State.halted, (State.release_frame _ e).2]
        rfl

/-- Enough rounds leave no silent entry at the head. -/
theorem State.settleQuiet_loud (n : Nat) : ∀ {s : State}, (∀ e ∈ s.cq.holding.drop n, e.silent = false) →
    ((State.settleQuiet n s).cq.holding.head?).any (·.silent) = false := by
  induction n with
  | zero =>
    intro s h
    change (s.cq.holding.head?).any (·.silent) = false
    cases hl : s.cq.holding with
    | nil => rfl
    | cons e rest => exact h e (by rw [hl]; exact List.mem_cons_self ..)
  | succ n ih =>
    intro s h
    cases hh : (s.cq.holding.head?).any (·.silent) with
    | false => rw [State.settleQuiet_of_loud _ hh]; exact hh
    | true =>
      cases hl : s.cq.holding with
      | nil => simp [hl] at hh
      | cons e rest =>
        rw [State.settleQuiet_of_silent n hl (by simpa [hl] using hh)]
        refine ih fun x hx => ?_
        obtain ⟨l, hcq, hloud⟩ := State.release_cq_eq (s.setCq { s.cq with holding := rest }) e
        rw [hcq] at hx
        have hx : x ∈ (rest ++ l).drop n := hx
        rw [List.drop_append] at hx
        rcases List.mem_append.mp hx with hx | hx
        · exact h x (by rw [hl]; exact hx)
        · exact hloud x (List.mem_of_mem_drop hx)

theorem State.noteBlocking_holding (s : State) : s.noteBlocking.cq.holding = s.cq.holding := by
  obtain ⟨b, i, h⟩ := s.noteBlocking_eq
  rw [h]; rfl

/-- No event ends with a silent entry at the head (R110). -/
theorem State.settle_loud (hh : s.halted = false) (hq : s.cmd.queue = []) :
    (s.settle.cq.holding.head?).any (·.silent) = false := by
  obtain ⟨hq', hh'⟩ := State.settleQuiet_keeps s.cq.holding.length hq
  rw [State.settle_of_no_command (hh'.trans hh) hh hq', State.noteBlocking_holding]
  exact State.settleQuiet_loud _ fun e he => by simp at he

theorem State.writerReady_of (ha : s.awake = true) (hi : s.cq.inFlight = none) (hf : s.flt.outstanding .cq = false) :
    s.writerReady = true := by
  simp [State.writerReady, ha, hi, hf]

theorem State.noteBlocking_of_full (h : s.cq.holding = e :: rest) (he : e.silent = false) (hf : s.cq.full = true)
    (hw : s.writerReady = true) (hb : s.cq.blocking = false) :
    s.noteBlocking = (s.setCq { s.cq with blocking := true }).raise .cqfull := by
  simp [State.noteBlocking, State.headNeedsRecord, h, he, hf, hw, hb]

theorem State.noteBlocking_of_none (h : s.cq.blocking = true ∨ s.cq.full = false) : s.noteBlocking = s := by
  rcases h with h | h <;> simp [State.noteBlocking, h]

/-- Where the head needs a record and no command waits, the end of an event only notes a blocked head. -/
theorem State.settle_of_loud (hh : s.halted = false) (hq : s.cmd.queue = [])
    (hl : (s.cq.holding.head?).any (·.silent) = false) : s.settle = s.noteBlocking := by
  have h := State.settleQuiet_of_loud s.cq.holding.length hl
  have hs := State.settle_of_no_command (s := s) (by rw [h]; exact hh) hh (by rw [h]; exact hq)
  rw [hs, h]

/-- A QUIET message with code OK that stands before an entry of another kind leaves alone (R110). -/
theorem State.settle_of_silent {k : Fin 2} (hh : s.halted = false) (hq : s.cmd.queue = [])
    (h : s.cq.holding = e :: rest) (he : e.silent = true) (hw : e.waiter = .slot k)
    (hr : (s.ring e.ring).state ≠ .stopping) (hl : (rest.head?).any (·.silent) = false) :
    s.settle = (((s.setCq { s.cq with holding := rest }).advanceCons e.ring).setSlot k none).noteBlocking := by
  have hone : State.settleQuiet s.cq.holding.length s =
      ((s.setCq { s.cq with holding := rest }).advanceCons e.ring).setSlot k none := by
    rw [h, List.length_cons, State.settleQuiet_of_silent _ h he, State.release_slot hw (by exact hr)]
    exact State.settleQuiet_of_loud _ hl
  rw [State.settle_of_no_command (by rw [hone]; exact hh) hh (by rw [hone]; exact hq), hone]

/-- A blocking episode raises CQFULL and leaves every other cause (R138). -/
theorem State.noteBlocking_cq_cause (s : State) :
    s.noteBlocking.glb.intstat &&& IrqCause.cq.mask = s.glb.intstat &&& IrqCause.cq.mask := by
  unfold State.noteBlocking
  split
  · change (s.glb.intstat ||| IrqCause.cqfull.mask) &&& IrqCause.cq.mask = _
    rw [BitVec.and_comm, BitVec.and_or_distrib_left, BitVec.and_comm IrqCause.cq.mask s.glb.intstat,
      show IrqCause.cq.mask &&& IrqCause.cqfull.mask = 0#10 from rfl, BitVec.or_zero]
  · rfl

/-! ## The rows -/

theorem exec_recordWriteComplete_ok (hin : .record ∈ s.due.inFlight) (ha : s.due.awake = true)
    (h : s.due.cq.holding = e :: rest) :
    exec (.recordWriteComplete .live .ok) s = .next s.due.recordWritten.settle :=
  State.dmaEvent_next (f := fun v => v.recordDone .ok) hin ha
    ((State.halted_recordWritten h).trans (State.halted_of_awake ha))

/-- A record write that fails posts its fault and keeps the entry (R139). -/
theorem State.recordFailed_of_head (h : s.cq.holding = e :: rest) (hf : s.flt = {}) :
    ∃ i, s.recordFailed = ((s.setCq { s.cq with inFlight := none }).setFlt { record := some {
      source := .cq, kind := .cqBus, phase := .na, index := e.index, chan := e.chan,
      addr := itemAddr s.cq.base s.cq.tail } }).setGlb { s.glb with intstat := s.glb.intstat ||| i } := by
  refine ⟨IrqCause.fault.mask, ?_⟩
  have hpost : s.recordFailed = (s.setCq { s.cq with inFlight := none }).post
      { source := .cq, kind := .cqBus, phase := .na, index := e.index, chan := e.chan,
        addr := itemAddr s.cq.base s.cq.tail } := by
    simp only [State.recordFailed, h]
  rw [hpost]
  exact State.post_of_empty (s := s.setCq { s.cq with inFlight := none }) _ hf

theorem State.recordIssue_of_ready (ha : s.awake = true) (h : s.cq.holding = e :: rest) (he : e.silent = false)
    (hf : s.cq.full = false) (hi : s.cq.inFlight = none) (ho : s.flt.outstanding .cq = false)
    (hb : s.bus.afterReset = []) :
    s.recordIssue = s.setCq { s.cq with
      inFlight := some
        { addr := itemAddr s.cq.base s.cq.tail, w0 := e.word0 s.cq.phase, w1 := e.word1, w2 := e.cookie,
          w3 := e.word3 } } := by
  simp [State.recordIssue, h, he, hf, State.writerReady_of ha hi ho, State.dmaOpen, hb]

theorem State.recordIssue_of_silent (h : s.cq.holding = e :: rest) (he : e.silent = true) : s.recordIssue = s := by
  simp [State.recordIssue, h, he]

/-- What the end of an event leaves where a silent entry of a slot stood at the head (R109, R110). -/
theorem State.settle_silent_facts {k : Fin 2} (hh : s.halted = false) (hq : s.cmd.queue = [])
    (h : s.cq.holding = e :: rest) (he : e.silent = true) (hw : e.waiter = .slot k)
    (hr : (s.ring e.ring).state ≠ .stopping) (hl : (rest.head?).any (·.silent) = false) :
    s.settle.cq.holding = rest ∧ s.settle.cq.tail = s.cq.tail ∧ s.settle.cq.phase = s.cq.phase ∧
      s.settle.cq.inFlight = s.cq.inFlight ∧ s.settle.cq.unsignalled = s.cq.unsignalled ∧
      s.settle.cq.timer = s.cq.timer ∧ s.settle.ring e.ring = (s.ring e.ring).advanced ∧ s.settle.slot k = none ∧
      s.settle.glb.intstat &&& IrqCause.cq.mask = s.glb.intstat &&& IrqCause.cq.mask ∧
      (rest = [] → s.settle.glb = s.glb) := by
  rw [State.settle_of_silent hh hq h he hw hr hl, State.noteBlocking_cq_cause]
  have hempty : rest = [] →
      (((s.setCq { s.cq with holding := rest }).advanceCons e.ring).setSlot k none).noteBlocking.glb = s.glb := fun hn => by
    rw [State.noteBlocking_of_empty hn]
    simp [State.advanceCons, State.setRing, State.setSlot]
  obtain ⟨b, i, hnote⟩ :=
    (((s.setCq { s.cq with holding := rest }).advanceCons e.ring).setSlot k none).noteBlocking_eq
  rw [hnote] at hempty ⊢
  refine ⟨?_, ?_, ?_, ?_, ?_, ?_, ?_, ?_, ?_, hempty⟩ <;>
    simp [State.advanceCons, State.setRing, State.setSlot, State.ring, State.slot, Ring.advanced]

/-- Settles O42: a written record leaves the list, then moderation counts it; the end of an event looks at the head. -/
theorem recordWrites : Obligations.RecordWrites := by
  refine ⟨fun s e rest ha h he hf hi ho hb => congrArg _ (State.recordIssue_of_ready ha h he hf hi ho hb),
    fun s e rest ha hin h => ?_, fun s e rest ha h he hq => ⟨fun hf hi ho hb => ?_, fun hb => ?_⟩,
    fun s e rest k hh hq h hk hquiet hc hw hr hl => ?_, fun s hh hq => State.settle_loud hh hq⟩
  · have hexec := exec_recordWriteComplete_ok hin ha h
    obtain ⟨hrings, hslots, hcmd, htail, hphase, hhold, hinf, hblock, -⟩ := State.recordWritten_frame h
    refine ⟨fun hw => ⟨_, hexec, ?_⟩, fun k hw hr => ⟨_, hexec, ?_⟩, fun adv hw hr => ⟨_, hexec, ?_⟩,
      fun hw => ⟨_, hexec, ?_⟩, ⟨_, hexec, State.recordWritten_moderation h⟩, fun hf => ?_⟩
    · have hcq := State.recordLeft_cq (s := s.due) (rest := rest) (.inl hw)
      have hleft : s.due.recordLeft e rest = s.due.setCq { s.due.cq.advanced with inFlight := none, holding := rest } :=
        State.release_notice hw
      rw [htail, hphase, hhold, hinf, hrings, hslots, hleft]
      exact ⟨rfl, rfl, rfl, rfl, hblock, rfl, rfl⟩
    · have hns : (s.due.ring e.ring).state ≠ .stopping := by rw [hr]; exact fun e => nomatch e
      have hleft := State.release_slot
        (s := s.due.setCq { s.due.cq.advanced with inFlight := none, holding := rest }) hw hns
      rw [htail, hhold, State.slot, State.ring, hslots, hrings, State.recordLeft, hleft]
      exact ⟨rfl, rfl, State.slot_setSlot_self _ k none, State.ring_advanceCons _ e.ring⟩
    · have hleft := State.release_skipped
        (s := s.due.setCq { s.due.cq.advanced with inFlight := none, holding := rest }) hw hr
      rw [hhold, hslots, State.ring, hrings, State.recordLeft, hleft]
      cases adv with
      | false => exact ⟨rfl, rfl, rfl⟩
      | true => exact ⟨rfl, rfl, State.ring_advanceCons _ e.ring⟩
    · have hleft : s.due.recordLeft e rest =
          (s.due.setCq { s.due.cq.advanced with inFlight := none, holding := rest }).popCommand :=
        State.release_command hw
      rw [hhold, hcmd, hrings, hslots, hleft]
      exact ⟨rfl, rfl, rfl, rfl⟩
    · obtain ⟨i, hfail⟩ := State.recordFailed_of_head h hf
      have hdone : s.due.recordDone .error = _ := hfail
      refine ⟨_, State.dmaEvent_next (f := fun v => v.recordDone .error) hin ha ?_, ?_⟩
      · rw [hdone]
        exact State.halted_of_awake ha
      · rw [hdone]
        exact ⟨rfl, rfl, rfl, rfl⟩
  · rw [State.settle_of_loud (State.halted_of_awake ha) hq (by simpa [h] using he),
      State.noteBlocking_of_full h he hf (State.writerReady_of ha hi ho) hb]
    rfl
  · rw [State.settle_of_loud (State.halted_of_awake ha) hq (by simpa [h] using he), State.noteBlocking_of_none hb]
  · have he : e.silent = true := by simp [Entry.silent, hk, hquiet, hc]
    have hns : (s.ring e.ring).state ≠ .stopping := by rw [hr]; exact fun e => nomatch e
    exact ⟨congrArg _ (State.recordIssue_of_silent h he), State.settle_silent_facts hh hq h he hw hns hl⟩

end Sys2Proof.Machine
end

section
/-! PROOFS. Station marks, and how an attempt ends for its message and its link (R44 to R50, R63 to R67). -/

namespace Sys2Proof.Machine

set_option Elab.async false

variable {s t u : State} {a b : LineAddr} {k : Fin 2} {m : Message} {n : Snapshot}

/-! ## Station marks -/

/-- `t` differs from `s` by station marks alone: the Station Table, and INTSTAT with more causes set. -/
def State.Marks (s t : State) : Prop :=
  ∃ v i, t = (s.setStn v).setGlb { s.glb with intstat := s.glb.intstat ||| i }

theorem State.Marks.refl (s : State) : s.Marks s :=
  ⟨s.stn, 0, by rw [show s.glb.intstat ||| 0 = s.glb.intstat from BitVec.or_zero]; rfl⟩

theorem State.Marks.trans (h : s.Marks t) (h' : t.Marks u) : s.Marks u := by
  obtain ⟨v, i, rfl⟩ := h
  obtain ⟨w, j, rfl⟩ := h'
  refine ⟨w, i ||| j, ?_⟩
  simp only [State.setGlb_glb, BitVec.or_assoc]
  rfl

theorem State.marks_setStn (s : State) (v : StationTable) : s.Marks (s.setStn v) :=
  ⟨v, 0, by rw [show s.glb.intstat ||| 0 = s.glb.intstat from BitVec.or_zero]; rfl⟩

theorem State.marks_setStation (s : State) (a : LineAddr) (r : Station) : s.Marks (s.setStation a r) := by
  unfold State.setStation
  split
  · exact .refl s
  · exact s.marks_setStn _

theorem State.marks_setPresence (s : State) (a : LineAddr) (p : Presence) : s.Marks (s.setPresence a p) := by
  unfold State.setPresence
  split
  · exact .refl s
  · exact (s.marks_setStation a _).trans ⟨_, IrqCause.stn.mask, rfl⟩

theorem State.marks_replyMark (s : State) (a : LineAddr) : s.Marks (s.replyMark a) :=
  (s.marks_setStation a _).trans (State.marks_setPresence _ a .active)

theorem State.marks_failureMark (s : State) (a : LineAddr) : s.Marks (s.failureMark a) := s.marks_setStation a _

theorem State.marks_setResync (s : State) (a : LineAddr) (v : Bool) : s.Marks (s.setResync a v) :=
  s.marks_setStation a _

theorem State.marks_missMark (s : State) (a : LineAddr) : s.Marks (s.missMark a) := by
  unfold State.missMark
  dsimp only
  split
  · exact (s.marks_setStation a _).trans (State.marks_setPresence _ a .silent)
  · exact s.marks_setStation a _

theorem State.marks_failStation (s : State) (a : LineAddr) (c : AttemptCause) (final : Bool) :
    s.Marks (s.failStation a c final) := by
  have hmiss : s.Marks (if c = .timeout then (s.failureMark a).missMark a else s.failureMark a) := by
    split
    · exact (s.marks_failureMark a).trans (State.marks_missMark _ a)
    · exact s.marks_failureMark a
  unfold State.failStation
  split
  · dsimp only
    cases final with
    | true => exact hmiss.trans (State.marks_setResync _ a true)
    | false => exact hmiss
  · exact .refl s

/-- A change of the Station Table and of INTSTAT leaves every other block. -/
theorem State.Marks.frame (h : s.Marks t) :
    t.slots = s.slots ∧ t.rings = s.rings ∧ t.link = s.link ∧ t.cq = s.cq ∧ t.cmd = s.cmd ∧ t.counters = s.counters ∧
      t.rxp = s.rxp ∧ t.listen = s.listen ∧ t.line = s.line ∧ t.tx = s.tx ∧ t.rx = s.rx ∧ t.frx = s.frx ∧
      t.halted = s.halted := by
  obtain ⟨v, i, rfl⟩ := h
  exact ⟨rfl, rfl, rfl, rfl, rfl, rfl, rfl, rfl, rfl, rfl, rfl, rfl, rfl⟩

/-! ## What the marks do to their record -/

theorem State.station_congr (h : t.stn = s.stn) (a : LineAddr) : t.station a = s.station a := by
  rw [State.station, State.station, h]

theorem State.station_replyMark (h0 : a ≠ 0) (h1 : a ≠ 127) :
    (s.replyMark a).station a = { s.station a with missCount := 0, presence := .active } := by
  rw [State.replyMark, State.station_setPresence_self _ h0 h1, State.station_setStation_self _ h0 h1]

theorem State.station_failureMark (h0 : a ≠ 0) (h1 : a ≠ 127) :
    (s.failureMark a).station a = { s.station a with errCount := satInc (s.station a).errCount } :=
  State.station_setStation_self _ h0 h1

theorem State.station_setResync (v : Bool) (h0 : a ≠ 0) (h1 : a ≠ 127) :
    (s.setResync a v).station a = { s.station a with resyncNeeded := v } :=
  State.station_setStation_self _ h0 h1

/-- The increment that brings a station, not SILENT yet, to MISSLIM makes it SILENT (R64). -/
theorem State.missMark_of_limit (h : s.line.missEff ≤ (satInc (s.station a).missCount).toNat)
    (hp : (s.station a).presence ≠ .silent) :
    s.missMark a = (s.setStation a { s.station a with
      missCount := satInc (s.station a).missCount, resyncNeeded := true }).setPresence a .silent := if_pos ⟨h, hp⟩

/-- Any other miss mark counts alone (R64). -/
theorem State.missMark_of_below (h : (satInc (s.station a).missCount).toNat < s.line.missEff ∨
      (s.station a).presence = .silent) :
    s.missMark a = s.setStation a { s.station a with missCount := satInc (s.station a).missCount } :=
  if_neg fun ⟨hl, hp⟩ => h.elim (fun h => absurd hl (Nat.not_le.mpr h)) hp

/-- A miss mark increments MissCount and keeps ErrCount; where it does not make the station SILENT it changes nothing else. -/
theorem State.station_missMark (h0 : a ≠ 0) (h1 : a ≠ 127) :
    (s.missMark a).station a =
      if s.line.missEff ≤ (satInc (s.station a).missCount).toNat ∧ (s.station a).presence ≠ .silent then
        { s.station a with
          missCount := satInc (s.station a).missCount, resyncNeeded := true, presence := .silent }
      else { s.station a with missCount := satInc (s.station a).missCount } := by
  split
  next h =>
    rw [State.missMark_of_limit h.1 h.2, State.station_setPresence_self _ h0 h1,
      State.station_setStation_self _ h0 h1]
  next h =>
    rw [State.missMark_of_below (by
      by_cases hl : s.line.missEff ≤ (satInc (s.station a).missCount).toNat
      · exact .inr (not_not.mp fun hp => h ⟨hl, hp⟩)
      · exact .inl (Nat.not_le.mp hl))]
    exact State.station_setStation_self _ h0 h1

theorem State.changed_setStation (s : State) (a : LineAddr) (r : Station) :
    (s.setStation a r).stn.changed = s.stn.changed ∧ (s.setStation a r).glb = s.glb := by
  unfold State.setStation
  split <;> exact ⟨rfl, rfl⟩

theorem State.setPresence_of_change {p : Presence} (h : (s.station a).presence ≠ p) (h0 : a ≠ 0) (h1 : a ≠ 127) :
    s.setPresence a p =
      let v := s.setStation a { s.station a with presence := p }
      (v.setStn { v.stn with changed := v.stn.changed ||| addrBit a }).raise .stn :=
  if_neg fun hc => hc.elim h fun h => h.elim h0 h1

/-- Settles O27: a miss mark below the limit counts alone; a change of Presence alone is notified. -/
theorem stationMarks : Obligations.StationMarks := by
  intro s a h0 h1
  refine ⟨State.station_replyMark h0 h1, State.station_failureMark h0 h1, (s.changed_setStation a _).1, ?_,
    fun hl => ⟨?_, fun hp => ?_⟩, fun h => ?_, rfl, fun p hp => ?_, if_pos (.inl rfl)⟩
  · rw [State.station_missMark h0 h1]
    split <;> rfl
  · rw [State.station_missMark h0 h1]
    split
    next h => rfl
    next h => exact not_not.mp fun hp => h ⟨hl, hp⟩
  · rw [State.station_missMark h0 h1, if_pos ⟨hl, hp⟩]
  · rw [State.missMark_of_below h]
    exact ⟨State.station_setStation_self _ h0 h1, s.changed_setStation a _⟩
  · obtain ⟨hchanged, hglb⟩ := s.changed_setStation a { s.station a with presence := p }
    rw [State.setPresence_of_change hp h0 h1]
    exact ⟨congrArg (· ||| addrBit a) hchanged, congrArg (fun g : Global => g.intstat ||| IrqCause.stn.mask) hglb⟩

/-! ## The return to Idle (R32, R61) -/

/-- The link with its exchange ended and its enable standing. -/
def Link.idled (l : Link) : Link := { l with state := .idle, x := {} }

theorem State.toIdle_of_stays (h : s.LinkStays) : s.toIdle = s.setLink s.link.idled :=
  if_pos (by simp [h.1, h.2])

/-- With EN 0 and the transmitter off the link is Disabled and the receiver inactive (R61). -/
theorem State.toIdle_of_disabled (he : s.link.en = false) (ht : s.tx.phase = .off) :
    s.toIdle = ((s.setLink { s.link with
      state := .disabled, x := {}, outbound := 0, pause := none, offPending := false }).setRx {}).setFrx
        { s.frx with state := .hunt } := by
  simp [State.toIdle, State.enterDisabled, State.dropRx, he, ht]

/-- The end of an exchange touches the link and the receiver alone. -/
theorem State.toIdle_eq (s : State) : ∃ l r f, s.toIdle = ((s.setLink l).setRx r).setFrx f ∧
    (l.state = .idle ∨ l.state = .disabled) := by
  have hstate := s.toIdle_link_state
  have hex : ∃ l r f, s.toIdle = ((s.setLink l).setRx r).setFrx f := by
    unfold State.toIdle
    split
    · exact ⟨{ s.link with state := .idle, x := {} }, s.rx, s.frx, rfl⟩
    · have hdis : ∃ l r f, s.enterDisabled = ((s.setLink l).setRx r).setFrx f := by
        unfold State.enterDisabled
        dsimp only
        split
        · exact ⟨_, _, _, rfl⟩
        · exact ⟨{ s.link with state := .disabled, x := {}, outbound := 0, pause := none, offPending := false }, s.rx,
            s.frx, rfl⟩
      obtain ⟨l, r, f, hd⟩ := hdis
      dsimp only
      split
      · obtain ⟨l', r', f', he, -⟩ := State.enableLink_eq s.enterDisabled
        exact ⟨l', r', f', by rw [he, hd]; rfl⟩
      · exact ⟨l, r, f, hd⟩
  obtain ⟨l, r, f, h⟩ := hex
  refine ⟨l, r, f, h, ?_⟩
  rw [h] at hstate
  exact hstate

/-! ## Outcomes (R109) -/

theorem State.setSlot_setSlot (s : State) (k : Fin 2) (m m' : Option Message) :
    (s.setSlot k m).setSlot k m' = s.setSlot k m' := by
  have h : (s.slots.set k m).set k m' = s.slots.set k m' := by
    ext i hi
    simp only [Vector.getElem_set]
    split <;> rfl
  exact congrArg s.setSlots h

/-- The message with its failure code, as it waits for the Err write of snapshot `n` (R89). -/
def Message.failed (m : Message) (n : Snapshot) (c : Code) : Message :=
  { m with code := c, phase := .finishing .errWrite, txn := n.addr + 7 }

/-- A failure whose Err is still 0 is written back (R89). -/
theorem State.giveOutcome_of_failure {c : Code} (hm : s.slot k = some m) (hc : c.failure = true)
    (hn : m.snap = some n) (he : n.e.err = false) : s.giveOutcome k c = s.setSlot k (some (m.failed n c)) := by
  have haddr : ({ m with code := c } : Message).errAddr = n.addr + 7 := by
    change (m.snap.map (·.addr)).getD 0 + 7 = _
    rw [hn]
    rfl
  have hany : (m.snap.any fun n => !n.e.err) = true := by simp [hn, he]
  simp only [State.giveOutcome, hm, hc, if_true, hany, haddr]
  rfl

/-- The same where the message has just been changed in its slot. -/
theorem State.giveOutcome_setSlot {c : Code} (hc : c.failure = true) (hn : m.snap = some n) (he : n.e.err = false) :
    (s.setSlot k (some m)).giveOutcome k c = s.setSlot k (some (m.failed n c)) :=
  (State.giveOutcome_of_failure (State.slot_setSlot_self s k _) hc hn he).trans (s.setSlot_setSlot k _ _)

theorem State.settleStopping_of_running (hm : s.slot k = some m) (hr : (s.ring m.ring).state = .running) :
    s.settleStopping k = s := by
  simp [State.settleStopping, hm, hr]

/-- The message with one more attempt, which failed with a cause (R46). -/
def Message.tried (m : Message) (c : AttemptCause) : Message := { m with attempts := m.attempts + 1, lastCause := c }

theorem Message.lastAttempt_iff (hn : m.snap = some n) (silent : Bool) :
    m.lastAttempt silent = true ↔ m.attempts = n.e.retry.toNat ∨ silent = true := by
  simp [Message.lastAttempt, Message.retryLimit, hn]

theorem State.failMessage_eq (c : AttemptCause) (silent : Bool) (hm : s.slot k = some m) :
    s.failMessage k c silent =
      if m.lastAttempt silent then (s.setSlot k (some (m.tried c))).giveOutcome k .noReply
      else (s.setSlot k (some (m.tried c))).settleStopping k := by
  simp only [State.failMessage, hm]
  rfl

/-- A failed attempt that is not the last leaves the message staged (R46). -/
theorem State.failMessage_of_more (c : AttemptCause) {silent : Bool} (hm : s.slot k = some m)
    (hl : m.lastAttempt silent = false) (hr : (s.ring m.ring).state = .running) :
    s.failMessage k c silent = s.setSlot k (some (m.tried c)) := by
  rw [State.failMessage_eq c silent hm, if_neg (ne_true_of_eq_false hl)]
  exact State.settleStopping_of_running (State.slot_setSlot_self s k _) hr

/-- The last one completes it NO_REPLY with an Err write (R46, R89). -/
theorem State.failMessage_of_last (c : AttemptCause) {silent : Bool} (hm : s.slot k = some m)
    (hl : m.lastAttempt silent = true) (hn : m.snap = some n) (he : n.e.err = false) :
    s.failMessage k c silent = s.setSlot k (some ((m.tried c).failed n .noReply)) := by
  rw [State.failMessage_eq c silent hm, if_pos hl]
  exact State.giveOutcome_setSlot rfl hn he

/-- The message with one more attempt, which ended it (R45). -/
def Message.ended (m : Message) : Message := { m with attempts := m.attempts + 1 }

theorem State.endMessage_eq (c : Code) (hm : s.slot k = some m) :
    s.endMessage k c = (s.setSlot k (some m.ended)).giveOutcome k c := by
  simp only [State.endMessage, hm]
  rfl

theorem State.endMessage_ok (hm : s.slot k = some m) :
    s.endMessage k .ok = (s.setSlot k (some m.ended)).joinMessage k { m.ended with code := .ok } := by
  rw [State.endMessage_eq .ok hm]
  exact State.giveOutcome_of_no_failure (code := .ok) (State.slot_setSlot_self s k _) rfl

theorem State.endMessage_refused (hm : s.slot k = some m) (hn : m.snap = some n) (he : n.e.err = false) :
    s.endMessage k .refused = s.setSlot k (some (m.ended.failed n .refused)) := by
  rw [State.endMessage_eq .refused hm]
  exact State.giveOutcome_setSlot rfl hn he

/-- The message with one more NAK(FULL) counted (R45). -/
def Message.nakked (m : Message) : Message := { m with fullCount := satInc m.fullCount }

theorem State.nakFull_eq (hm : s.slot k = some m) (hn : m.snap = some n) :
    s.nakFull k =
      if n.e.fullLimit ≠ 0 ∧ m.fullCount = n.e.fullLimit then
        (s.setSlot k (some m.nakked)).giveOutcome k .fullLimit
      else (s.setSlot k (some m.nakked)).settleStopping k := by
  have hlim : m.fullLimit = n.e.fullLimit := by simp [Message.fullLimit, hn]
  simp only [State.nakFull, hm, hlim]
  rfl

theorem State.nakFull_of_limit (hm : s.slot k = some m) (hn : m.snap = some n) (he : n.e.err = false)
    (h0 : n.e.fullLimit ≠ 0) (hf : m.fullCount = n.e.fullLimit) :
    s.nakFull k = s.setSlot k (some (m.nakked.failed n .fullLimit)) := by
  rw [State.nakFull_eq hm hn, if_pos ⟨h0, hf⟩]
  exact State.giveOutcome_setSlot rfl hn he

theorem State.nakFull_of_below (hm : s.slot k = some m) (hn : m.snap = some n)
    (h : n.e.fullLimit = 0 ∨ m.fullCount ≠ n.e.fullLimit) (hr : (s.ring m.ring).state = .running) :
    s.nakFull k = s.setSlot k (some m.nakked) := by
  rw [State.nakFull_eq hm hn, if_neg fun ⟨h0, hf⟩ => h.elim h0 fun h => h hf]
  exact State.settleStopping_of_running (State.slot_setSlot_self s k _) hr

end Sys2Proof.Machine
end

section
/-! PROOFS. Failed attempts and polls (R46 to R50, R57). -/

namespace Sys2Proof.Machine

set_option Elab.async false

variable {s t u : State} {a b : LineAddr} {k : Fin 2} {m : Message} {n : Snapshot} {c : AttemptCause}

/-! ## The record of a failed attempt -/

/-- A record with a miss mark where MISSLIM is `lim` (R64). -/
def Station.missed (r : Station) (lim : Nat) : Station :=
  if lim ≤ (satInc r.missCount).toNat ∧ r.presence ≠ .silent then
    { r with missCount := satInc r.missCount, resyncNeeded := true, presence := .silent }
  else { r with missCount := satInc r.missCount }

/-- The record after a failed attempt or poll (R44, R46). -/
def Station.failed (r : Station) (lim : Nat) (c : AttemptCause) (final : Bool) : Station :=
  let r1 : Station := { r with errCount := satInc r.errCount }
  let r2 := if c = .timeout then r1.missed lim else r1
  if final then { r2 with resyncNeeded := true } else r2

theorem State.station_failStation (c : AttemptCause) (final : Bool) (hr : s.line.role = .anchor) (h0 : a ≠ 0)
    (h1 : a ≠ 127) : (s.failStation a c final).station a = (s.station a).failed s.line.missEff c final := by
  rw [State.failStation_of_anchor a c final hr]
  have hline : (s.failureMark a).line.missEff = s.line.missEff := by
    rw [(s.marks_failureMark a).frame.2.2.2.2.2.2.2.2.1]
  have hmark : (if c = .timeout then (s.failureMark a).missMark a else s.failureMark a).station a =
      if c = .timeout then
        ({ s.station a with errCount := satInc (s.station a).errCount } : Station).missed s.line.missEff
      else { s.station a with errCount := satInc (s.station a).errCount } := by
    split
    · rw [State.station_missMark h0 h1, State.station_failureMark h0 h1, hline]
      rfl
    · exact State.station_failureMark h0 h1
  cases final with
  | true =>
    rw [if_pos rfl, State.station_setResync true h0 h1, hmark]
    rfl
  | false =>
    rw [if_neg Bool.false_ne_true, hmark]
    rfl

theorem Station.missed_counts (r : Station) (lim : Nat) :
    (r.missed lim).errCount = r.errCount ∧ (r.missed lim).missCount = satInc r.missCount := by
  unfold Station.missed
  split <;> exact ⟨rfl, rfl⟩

theorem Station.failed_errCount (r : Station) (lim : Nat) (c : AttemptCause) (final : Bool) :
    (r.failed lim c final).errCount = satInc r.errCount := by
  have hmark : (if c = .timeout then ({ r with errCount := satInc r.errCount } : Station).missed lim
      else { r with errCount := satInc r.errCount }).errCount = satInc r.errCount := by
    split
    · exact (Station.missed_counts _ lim).1
    · rfl
  cases final <;> exact hmark

theorem Station.failed_missCount (r : Station) (lim : Nat) (final : Bool) :
    (r.failed lim .timeout final).missCount = satInc r.missCount := by
  cases final <;> exact (Station.missed_counts { r with errCount := satInc r.errCount } lim).2

theorem Station.failed_resyncNeeded (r : Station) (lim : Nat) (c : AttemptCause) :
    (r.failed lim c true).resyncNeeded = true := rfl

/-- No cause but a timeout leaves a miss mark (R44). -/
theorem Station.failed_of_heard {r : Station} (lim : Nat) (hc : c ≠ .timeout) :
    r.failed lim c false = { r with errCount := satInc r.errCount } := by
  simp [Station.failed, hc]

/-! ## The link as a failure leaves it -/

/-- The link with the failure's cause noted in its exchange. -/
def State.causedLink (s : State) (c : AttemptCause) : Link := { s.link with x := { s.link.x with cause := c } }

theorem State.setStation_setLink (s : State) (l : Link) (a : LineAddr) (r : Station) :
    (s.setLink l).setStation a r = (s.setStation a r).setLink l := by
  unfold State.setStation
  split <;> rfl

theorem State.station_setLink (s : State) (l : Link) (a : LineAddr) : (s.setLink l).station a = s.station a := rfl

theorem State.setPresence_setLink (s : State) (l : Link) (a : LineAddr) (p : Presence) :
    (s.setLink l).setPresence a p = (s.setPresence a p).setLink l := by
  unfold State.setPresence
  rw [State.station_setLink]
  split
  · rfl
  · simp only [State.setStation_setLink]
    rfl

theorem State.failureMark_setLink (s : State) (l : Link) (a : LineAddr) :
    (s.setLink l).failureMark a = (s.failureMark a).setLink l := s.setStation_setLink l a _

theorem State.missMark_setLink (s : State) (l : Link) (a : LineAddr) :
    (s.setLink l).missMark a = (s.missMark a).setLink l := by
  unfold State.missMark
  simp only [State.station_setLink, State.setStation_setLink, State.setPresence_setLink, State.setLink_line]
  split <;> rfl

theorem State.setResync_setLink (s : State) (l : Link) (a : LineAddr) (v : Bool) :
    (s.setLink l).setResync a v = (s.setResync a v).setLink l := s.setStation_setLink l a _

theorem State.failStation_setLink (s : State) (l : Link) (a : LineAddr) (c : AttemptCause) (final : Bool) :
    (s.setLink l).failStation a c final = (s.failStation a c final).setLink l := by
  unfold State.failStation
  have hmark : (if c = .timeout then ((s.setLink l).failureMark a).missMark a else (s.setLink l).failureMark a) =
      (if c = .timeout then (s.failureMark a).missMark a else s.failureMark a).setLink l := by
    split
    · rw [State.failureMark_setLink, State.missMark_setLink]
    · exact s.failureMark_setLink l a
  rw [State.setLink_line]
  split
  · dsimp only
    rw [hmark]
    cases final with
    | true => exact State.setResync_setLink _ l a true
    | false => rfl
  · rfl

/-! ## Failed exchanges -/

/-- What a failed attempt makes of its Ready message with snapshot `n` (R46). -/
def Message.afterFailure (m : Message) (n : Snapshot) (c : AttemptCause) (silent : Bool) : Message :=
  if m.lastAttempt silent then (m.tried c).failed n .noReply else m.tried c

theorem State.failMessage_of_readyIn (c : AttemptCause) (silent : Bool) (hm : s.slot k = some m) (h : s.ReadyIn m n) :
    s.failMessage k c silent = s.setSlot k (some (m.afterFailure n c silent)) := by
  obtain ⟨hn, he, -, hr⟩ := h
  unfold Message.afterFailure
  cases hl : m.lastAttempt silent with
  | true => exact State.failMessage_of_last c hm hl hn he
  | false => exact State.failMessage_of_more c hm hl hr

theorem State.failsFinally_of_slot (silent : Bool) (hm : s.slot k = some m) :
    s.failsFinally (some k) silent = m.lastAttempt silent := by
  simp [State.failsFinally, hm]

/-- A failed outbound attempt of the anchor: marks, message, link (R46). -/
theorem State.failExchange_outbound (c : AttemptCause) (hu : s.exchangeUnsound = none) (hh : s.halted = false)
    (hk : s.link.x.kind = .outbound) (hx : s.link.x.slot = some k) (hm : s.slot k = some m) (h : s.ReadyIn m n) :
    s.failExchange c =
      (((s.failStation s.link.x.station c (m.lastAttempt s.link.x.beganSilent)).setSlot k
        (some (m.afterFailure n c s.link.x.beganSilent))).setLink (s.causedLink c)).toIdle := by
  have hmarks := s.marks_failStation s.link.x.station c (m.lastAttempt s.link.x.beganSilent)
  obtain ⟨hslots, hrings, -, -, -, -, -, -, -, -, -, -, hhalt⟩ := hmarks.frame
  have hmsg : ((s.failStation s.link.x.station c (m.lastAttempt s.link.x.beganSilent)).setLink
      (s.causedLink c)).failMessage k c s.link.x.beganSilent = _ :=
    State.failMessage_of_readyIn (m := m) (n := n) c s.link.x.beganSilent
      (by rw [State.slot, State.setLink_slots, hslots]; exact hm)
      (by obtain ⟨hn, he, hp, hr⟩ := h
          exact ⟨hn, he, hp, by rw [State.ring, State.setLink_rings, hrings]; exact hr⟩)
  have hbody : s.failExchange c = (((s.setLink (s.causedLink c)).failStation s.link.x.station c
      ((s.setLink (s.causedLink c)).failsFinally (some k) s.link.x.beganSilent)).failMessage k c
        s.link.x.beganSilent).unlessHalted State.toIdle := by
    simp only [State.failExchange, hu, State.checked_none, State.setLink_link, State.causedLink, hk, hx]
  rw [hbody, State.failsFinally_of_slot _ (by exact hm), State.failStation_setLink, hmsg,
    State.unlessHalted_of_not _ (by rw [State.halted, State.setSlot, State.setSlots_glb]; exact hhalt.trans hh)]
  rfl

/-- A failed poll: marks and link (R48). -/
theorem State.failExchange_poll (c : AttemptCause) (hu : s.exchangeUnsound = none) (hh : s.halted = false)
    (hk : s.link.x.kind = .poll) :
    s.failExchange c = ((s.failStation s.link.x.station c false).setLink (s.causedLink c)).toIdle := by
  have hhalt := (s.marks_failStation s.link.x.station c false).frame.2.2.2.2.2.2.2.2.2.2.2.2
  have hbody : s.failExchange c =
      ((s.setLink (s.causedLink c)).failStation s.link.x.station c false).unlessHalted State.toIdle := by
    simp only [State.failExchange, hu, State.checked_none, State.setLink_link, State.causedLink, hk]
  rw [hbody, State.failStation_setLink, State.unlessHalted_of_not _ (by exact hhalt.trans hh)]

/-- A member's failed attempt: at the last one the slot wants a resync (R57). -/
theorem State.failExchange_member (c : AttemptCause) (hu : s.exchangeUnsound = none) (hh : s.halted = false)
    (hk : s.link.x.kind = .member) (hx : s.link.x.slot = some k) (hm : s.slot k = some m) (h : s.ReadyIn m n) :
    s.failExchange c =
      (((if m.lastAttempt false then
          s.setLsn s.link.x.lslot { s.lsn s.link.x.lslot with resyncWanted := true } else s).setSlot k
        (some (m.afterFailure n c false))).setLink (s.causedLink c)).toIdle := by
  have hbody : s.failExchange c = ((if (s.setLink (s.causedLink c)).failsFinally (some k) false then
      (s.setLink (s.causedLink c)).setLsn s.link.x.lslot { s.lsn s.link.x.lslot with resyncWanted := true }
      else s.setLink (s.causedLink c)).failMessage k c false).unlessHalted State.toIdle := by
    simp only [State.failExchange, hu, State.checked_none, State.setLink_link, State.causedLink, hk, hx]
    rfl
  rw [hbody, State.failsFinally_of_slot _ (by exact hm)]
  cases hl : m.lastAttempt false with
  | true =>
    rw [if_pos rfl, if_pos rfl, State.failMessage_of_readyIn c false (by exact hm) (by exact h),
      State.unlessHalted_of_not _ (by exact hh)]
    rfl
  | false =>
    rw [if_neg Bool.false_ne_true, if_neg Bool.false_ne_true,
      State.failMessage_of_readyIn c false (by exact hm) (by exact h), State.unlessHalted_of_not _ (by exact hh)]
    rfl

end Sys2Proof.Machine
end

section
/-! PROOFS. Replies to outbound attempts, and their absence (chapter 3). -/

namespace Sys2Proof.Machine

set_option Elab.async false

variable {s t u : State} {k : Fin 2} {m : Message} {n : Snapshot} {c : AttemptCause} {f : Frame}

/-! ## What the end of an exchange leaves -/

/-- The return to Idle leaves every block but the link and the receiver. -/
theorem State.toIdle_frame (s : State) :
    s.toIdle.slots = s.slots ∧ s.toIdle.stn = s.stn ∧ s.toIdle.counters = s.counters ∧ s.toIdle.cq = s.cq ∧
      s.toIdle.listen = s.listen ∧ s.toIdle.rxp = s.rxp ∧ s.toIdle.rings = s.rings ∧ s.toIdle.glb = s.glb ∧
      s.toIdle.tx = s.tx ∧ s.toIdle.cmd = s.cmd := by
  obtain ⟨l, r, f, h, -⟩ := s.toIdle_eq
  rw [h]
  exact ⟨rfl, rfl, rfl, rfl, rfl, rfl, rfl, rfl, rfl, rfl⟩

theorem State.toIdle_link_of_stays (h : s.LinkStays) : s.toIdle.link = s.link.idled := by
  rw [State.toIdle_of_stays h, State.setLink_link]

theorem State.halted_toIdle (s : State) : s.toIdle.halted = s.halted := by
  rw [State.halted, s.toIdle_frame.2.2.2.2.2.2.2.1]
  rfl

/-- A failed outbound attempt: its message, its station and the counters. -/
theorem State.failExchange_outbound_facts (c : AttemptCause) (hr : s.line.role = .anchor)
    (hu : s.exchangeUnsound = none) (hh : s.halted = false) (hk : s.link.x.kind = .outbound)
    (hx : s.link.x.slot = some k) (hm : s.slot k = some m) (h : s.ReadyIn m n) (h0 : s.link.x.station ≠ 0)
    (h1 : s.link.x.station ≠ 127) :
    let u := s.failExchange c
    u.slot k = some (m.afterFailure n c s.link.x.beganSilent) ∧ u.counters = s.counters ∧
      u.station s.link.x.station =
        (s.station s.link.x.station).failed s.line.missEff c (m.lastAttempt s.link.x.beganSilent) := by
  intro u
  have hu : u = _ := State.failExchange_outbound c hu hh hk hx hm h
  clear_value u
  subst hu
  have hstation := State.station_failStation (s := s) c (m.lastAttempt s.link.x.beganSilent) hr h0 h1
  have hcounters := (s.marks_failStation s.link.x.station c (m.lastAttempt s.link.x.beganSilent)).frame.2.2.2.2.2.1
  generalize s.failStation s.link.x.station c (m.lastAttempt s.link.x.beganSilent) = v at hstation hcounters
  obtain ⟨hslots, hstn, hcount, -⟩ :=
    ((v.setSlot k (some (m.afterFailure n c s.link.x.beganSilent))).setLink (s.causedLink c)).toIdle_frame
  refine ⟨?_, hcount.trans hcounters, (State.station_congr hstn _).trans hstation⟩
  rw [State.slot, hslots]
  exact State.slot_setSlot_self v k _

/-- A failed poll: its station and the counters; no message. -/
theorem State.failExchange_poll_facts (c : AttemptCause) (hr : s.line.role = .anchor)
    (hu : s.exchangeUnsound = none) (hh : s.halted = false) (hk : s.link.x.kind = .poll)
    (h0 : s.link.x.station ≠ 0) (h1 : s.link.x.station ≠ 127) :
    let u := s.failExchange c
    u.slots = s.slots ∧ u.counters = s.counters ∧
      u.station s.link.x.station = (s.station s.link.x.station).failed s.line.missEff c false := by
  intro u
  have hu : u = _ := State.failExchange_poll c hu hh hk
  clear_value u
  subst hu
  have hstation := State.station_failStation (s := s) c false hr h0 h1
  obtain ⟨hslots, -, -, -, -, hcounters, -⟩ := (s.marks_failStation s.link.x.station c false).frame
  generalize s.failStation s.link.x.station c false = v at hstation hcounters hslots
  obtain ⟨hslots', hstn, hcount, -⟩ := (v.setLink (s.causedLink c)).toIdle_frame
  exact ⟨hslots'.trans hslots, hcount.trans hcounters, (State.station_congr hstn _).trans hstation⟩

/-- Where the link's enable stands, a failed attempt or poll leaves it Idle. -/
theorem State.failExchange_outbound_link (c : AttemptCause) (hu : s.exchangeUnsound = none) (hh : s.halted = false)
    (hk : s.link.x.kind = .outbound) (hx : s.link.x.slot = some k) (hm : s.slot k = some m) (h : s.ReadyIn m n)
    (hs : s.LinkStays) : (s.failExchange c).link = s.link.idled := by
  rw [State.failExchange_outbound c hu hh hk hx hm h]
  exact State.toIdle_link_of_stays hs

theorem State.failExchange_poll_link (c : AttemptCause) (hu : s.exchangeUnsound = none) (hh : s.halted = false)
    (hk : s.link.x.kind = .poll) (hs : s.LinkStays) : (s.failExchange c).link = s.link.idled := by
  rw [State.failExchange_poll c hu hh hk]
  exact State.toIdle_link_of_stays hs

/-! ## Frames at the anchor -/

theorem State.validFrame_of_anchor (h : s.line.role = .anchor) (f : Frame) : s.validFrame f = s.anchorFrame f := by
  simp [State.validFrame, h]

theorem State.anchorFrame_of_closed (f : Frame) (h : (s.awaitingReply && s.link.x.met) = false) :
    s.anchorFrame f = s.bump .stray := by
  simp only [State.anchorFrame, h, Bool.false_eq_true, if_false]

theorem State.anchorFrame_of_other (h : (s.awaitingReply && s.link.x.met) = true)
    (hf : f.src ≠ s.link.x.station ∨ f.kind = .poll ∨ f.kind = .sync) :
    s.anchorFrame f = (s.bump .stray).resumeWindow := by
  simp only [State.anchorFrame, h, hf, if_true]

/-- A frame of the awaited station that is no POLL and no SYNC is classed (R44). -/
theorem State.anchorFrame_of_classed (h : (s.awaitingReply && s.link.x.met) = true) (hs : f.src = s.link.x.station)
    (hp : f.kind ≠ .poll) (hy : f.kind ≠ .sync) (hu : s.exchangeUnsound = none) :
    s.anchorFrame f = if s.link.x.accepts f then s.anchorReply f else (s.bump .stray).failExchange .badReply := by
  have hno : ¬(f.src ≠ s.link.x.station ∨ f.kind = .poll ∨ f.kind = .sync) := by simp [hs, hp, hy]
  simp only [State.anchorFrame, h, hno, hu, if_true, if_false, State.checked_none]

theorem State.awaitingReply_of (hs : s.link.state = .awaiting) (hk : s.link.x.kind ≠ .bcast) :
    s.awaitingReply = true := by
  simp [State.awaitingReply, hs, hk]

theorem State.AnchorHears.window {x : XKind} (h : s.AnchorHears x) (hx : x ≠ .bcast) :
    (s.awaitingReply && s.link.x.met) = true := by
  obtain ⟨-, hs, hmet, hk, -, -⟩ := h
  rw [State.awaitingReply_of hs (by rw [hk]; exact hx), hmet]
  rfl

theorem State.anchorReply_outbound (f : Frame) (h : s.link.x.kind = .outbound) : s.anchorReply f = s.outboundReply f := by
  simp [State.anchorReply, h]

theorem State.anchorReply_dsync (f : Frame) (h : s.link.x.kind = .dsync) : s.anchorReply f = s.dsyncAck := by
  simp [State.anchorReply, h]

theorem State.anchorReply_poll (f : Frame) (h : s.link.x.kind = .poll) : s.anchorReply f = s.pollReply f := by
  simp [State.anchorReply, h]

/-! ## The message's reply -/

theorem State.messageReply_refused (k : Fin 2) (h : f.kind = .nak) (hd : f.detail = detailRefused) :
    s.messageReply k f = s.endMessage k .refused := by
  simp [State.messageReply, h, hd]

theorem State.messageReply_full (k : Fin 2) (h : f.kind = .nak) (hd : f.detail ≠ detailRefused) :
    s.messageReply k f = s.nakFull k := by
  simp [State.messageReply, h, hd]

theorem State.settleStopping_cases (hm : s.slot k = some m) :
    s.settleStopping k = s ∨ s.settleStopping k = s.joinMessage k { m with code := .stopped } := by
  simp only [State.settleStopping, hm]
  split
  · exact .inr (State.giveOutcome_of_no_failure (code := .stopped) hm rfl)
  · exact .inl rfl

/-- What a NAK to the message's DATA leaves besides its slot: at most one entry more in the list, and no Halt (R45). -/
theorem State.messageReply_nak_frame (hk : f.kind = .nak) (hm : s.slot k = some m) (hn : m.snap = some n)
    (he : n.e.err = false) :
    let u := s.messageReply k f
    u.halted = s.halted ∧ u.link = s.link ∧ u.cq.holding.length ≤ s.cq.holding.length + 1 ∧ u.listen = s.listen ∧
      u.counters = s.counters := by
  have hset (x : Message) : (s.setSlot k (some x)).halted = s.halted ∧ (s.setSlot k (some x)).link = s.link ∧
      (s.setSlot k (some x)).cq.holding.length ≤ s.cq.holding.length + 1 ∧ (s.setSlot k (some x)).listen = s.listen ∧
      (s.setSlot k (some x)).counters = s.counters := ⟨rfl, rfl, Nat.le_succ _, rfl, rfl⟩
  by_cases hd : f.detail = detailRefused
  · rw [State.messageReply_refused k hk hd, State.endMessage_refused hm hn he]
    exact hset _
  · rw [State.messageReply_full k hk hd, State.nakFull_eq hm hn]
    split
    · rw [State.giveOutcome_setSlot (m := m.nakked) (c := .fullLimit) rfl hn he]
      exact hset _
    · rcases State.settleStopping_cases (s := s.setSlot k (some m.nakked)) (State.slot_setSlot_self s k _) with h | h
      · rw [h]
        exact hset _
      · rw [h]
        refine ⟨rfl, rfl, ?_, rfl, rfl⟩
        change (s.cq.holding ++ [_]).length ≤ _
        rw [List.length_append, List.length_singleton]

/-- The message after a NAK (R45). -/
theorem State.messageReply_nak_slot (hk : f.kind = .nak) (hm : s.slot k = some m) (hn : m.snap = some n)
    (he : n.e.err = false) :
    let u := s.messageReply k f
    (f.detail = detailRefused → u.slot k = some (m.ended.failed n .refused)) ∧
      (f.detail = detailFull → n.e.fullLimit ≠ 0 → m.fullCount = n.e.fullLimit →
        u.slot k = some (m.nakked.failed n .fullLimit)) ∧
      (f.detail = detailFull → (n.e.fullLimit = 0 ∨ m.fullCount ≠ n.e.fullLimit) →
        (s.ring m.ring).state = .running → u.slot k = some m.nakked) := by
  have hne : f.detail = detailFull → f.detail ≠ detailRefused := fun h => by rw [h]; decide
  refine ⟨fun hd => ?_, fun hd h0 hf => ?_, fun hd hb hr => ?_⟩
  · rw [State.messageReply_refused k hk hd, State.endMessage_refused hm hn he]
    exact State.slot_setSlot_self s k _
  · rw [State.messageReply_full k hk (hne hd), State.nakFull_of_limit hm hn he h0 hf]
    exact State.slot_setSlot_self s k _
  · rw [State.messageReply_full k hk (hne hd), State.nakFull_of_below hm hn hb hr]
    exact State.slot_setSlot_self s k _

/-! ## Replies to the anchor's attempt -/

theorem State.outboundReply_ack (hk : f.kind = .ack) (hx : s.link.x.slot = some k) :
    s.outboundReply f = (((s.setStation s.link.x.station { s.station s.link.x.station with
      outSeq := !(s.station s.link.x.station).outSeq }).replyMark s.link.x.station).endMessage k .ok).unlessHalted
        State.toIdle := by
  simp only [State.outboundReply, hk, if_true, hx, State.messageReply]

theorem State.outboundReply_nak (hk : f.kind = .nak) (hx : s.link.x.slot = some k) :
    s.outboundReply f = ((s.replyMark s.link.x.station).messageReply k f).unlessHalted State.toIdle := by
  have hna : ¬f.kind = .ack := by rw [hk]; exact fun e => nomatch e
  simp only [State.outboundReply, hna, if_false, hx]

/-- The state after an accepted ACK, before the link returns to Idle: the record's flip and mark, the message's outcome. -/
theorem State.ackEnds_facts (hm : s.slot k = some m) :
    let u := s.endMessage k .ok
    u.halted = s.halted ∧ u.link = s.link ∧ u.stn = s.stn ∧ u.listen = s.listen ∧ u.counters = s.counters ∧
      u.line = s.line ∧ u.slot k = some { m.ended with code := .ok, phase := .finishing .held } ∧
      u.cq.holding = s.cq.holding ++ [({ m.ended with code := .ok } : Message).entry k] := by
  rw [State.endMessage_ok hm]
  refine ⟨rfl, rfl, rfl, rfl, rfl, rfl, State.slot_setSlot_self _ k _, rfl⟩

/-- The exchanges whose reply is the other end's ACK or NAK to a message's DATA (R34). -/
theorem Exchange.accepts_message {x : Exchange} (h : x.kind = .outbound ∨ x.kind = .member) (f : Frame) :
    x.accepts f = ((f.kind == .ack && f.seq == x.seq) || f.kind == .nak) := by
  rcases h with h | h <;> simp [Exchange.accepts, h]

theorem Exchange.accepts_ack {x : Exchange} (h : x.kind = .outbound ∨ x.kind = .member) (hk : f.kind = .ack)
    (hs : f.seq = x.seq) : x.accepts f = true := by
  simp [Exchange.accepts_message h, hk, hs]

theorem Exchange.accepts_nak {x : Exchange} (h : x.kind = .outbound ∨ x.kind = .member) (hk : f.kind = .nak) :
    x.accepts f = true := by
  simp [Exchange.accepts_message h, hk]

/-- The anchor's accepted ACK, before the link returns to Idle. -/
theorem State.validFrame_outboundAck (hr : s.line.role = .anchor) (hw : (s.awaitingReply && s.link.x.met) = true)
    (hk : s.link.x.kind = .outbound) (hx : s.link.x.slot = some k) (hm : s.slot k = some m)
    (hu : s.exchangeUnsound = none) (hh : s.halted = false) (hsrc : f.src = s.link.x.station) (hf : f.kind = .ack)
    (hseq : f.seq = s.link.x.seq) (h0 : s.link.x.station ≠ 0) (h1 : s.link.x.station ≠ 127) :
    ∃ v : State, s.validFrame f = v.toIdle ∧ v.link = s.link ∧ v.counters = s.counters ∧
      v.slot k = some { m.ended with code := .ok, phase := .finishing .held } ∧
      v.cq.holding = s.cq.holding ++ [({ m.ended with code := .ok } : Message).entry k] ∧
      v.station s.link.x.station = { s.station s.link.x.station with
        outSeq := !(s.station s.link.x.station).outSeq, missCount := 0, presence := .active } := by
  have hframe : s.validFrame f = s.outboundReply f := by
    rw [State.validFrame_of_anchor hr, State.anchorFrame_of_classed hw hsrc (by rw [hf]; exact fun e => nomatch e)
      (by rw [hf]; exact fun e => nomatch e) hu, if_pos (Exchange.accepts_ack (.inl hk) hf hseq),
      State.anchorReply_outbound f hk]
  rw [hframe, State.outboundReply_ack hf hx]
  have hmarks := (s.marks_setStation s.link.x.station { s.station s.link.x.station with
    outSeq := !(s.station s.link.x.station).outSeq }).trans (State.marks_replyMark _ s.link.x.station)
  have hstation := State.station_replyMark (s := s.setStation s.link.x.station { s.station s.link.x.station with
    outSeq := !(s.station s.link.x.station).outSeq }) h0 h1
  rw [State.station_setStation_self _ h0 h1] at hstation
  generalize (s.setStation s.link.x.station { s.station s.link.x.station with
    outSeq := !(s.station s.link.x.station).outSeq }).replyMark s.link.x.station = v at hmarks hstation
  obtain ⟨hslots, -, hlink, hcq, -, hcounters, -, -, -, -, -, -, hhalt⟩ := hmarks.frame
  have hm' : v.slot k = some m := by rw [State.slot, hslots]; exact hm
  obtain ⟨hhalt', hlink', hstn, -, hcounters', -, hslot, hholding⟩ := State.ackEnds_facts hm'
  refine ⟨v.endMessage k .ok, State.unlessHalted_of_not _ (hhalt'.trans (hhalt.trans hh)), hlink'.trans hlink,
    hcounters'.trans hcounters, hslot, by rw [hholding, hcq], (State.station_congr hstn _).trans hstation⟩

/-! ## Replies to a member's attempt (R57) -/

theorem State.validFrame_of_member (h : s.line.role = .member) (f : Frame) : s.validFrame f = s.memberFrame f := by
  simp [State.validFrame, h]

theorem State.restartAnchor_exchange (s : State) :
    s.restartAnchor.exchangeUnsound = s.exchangeUnsound ∧ s.restartAnchor.halted = s.halted ∧
      s.restartAnchor.slots = s.slots ∧ s.restartAnchor.listen = s.listen ∧ s.restartAnchor.rings = s.rings ∧
      s.restartAnchor.link.x = s.link.x ∧ s.restartAnchor.link.state = s.link.state ∧
      s.restartAnchor.counters = s.counters ∧ s.restartAnchor.cq = s.cq ∧ s.restartAnchor.stn = s.stn := by
  obtain ⟨l, h, hs, hx, -⟩ := s.restartAnchor_eq
  rw [h]
  refine ⟨?_, rfl, rfl, rfl, rfl, hx, hs, rfl, rfl, rfl⟩
  simp only [State.exchangeUnsound, State.setLink_link, hx, State.setLink_line]
  rfl

theorem State.restartAnchor_stays (h : s.LinkStays) : s.restartAnchor.LinkStays := by
  unfold State.restartAnchor
  split
  · exact h
  · exact h

/-- The slot of a member's exchange is sound where nothing the exchange reads is unsound (R159). -/
theorem State.lsn_sound_of_exchange (hu : s.exchangeUnsound = none) (hr : s.line.role = .member)
    (hk : s.link.x.kind = .member) : (s.lsn s.link.x.lslot).sound = true := by
  unfold State.exchangeUnsound at hu
  simp only [hr, hk, reduceCtorEq, false_and, if_false, true_and] at hu
  cases h : (s.lsn s.link.x.lslot).sound with
  | true => rfl
  | false => simp [h] at hu

/-- A reply that the member's attempt accepts: the message ends, then the frame is dispatched (log 12). -/
theorem State.validFrame_memberReply (ha : s.MemberAwaits k m) (hrun : s.ExchangeRuns) (hd : f.dest ≠ 127)
    (ho : s.owner f.dest = some s.link.x.lslot) (hacc : s.link.x.accepts f = true) :
    s.validFrame f =
      (s.restartAnchor.memberAck f).unlessHalted fun u => u.dispatch (some s.link.x.lslot) f := by
  obtain ⟨hr, hs, -, -, -⟩ := ha
  obtain ⟨hu, -, -⟩ := hrun
  obtain ⟨hexch, -, -, -, -, hx, hstate, -⟩ := s.restartAnchor_exchange
  have hsettles : s.restartAnchor.memberSettles (some s.link.x.lslot) f = s.restartAnchor.memberAck f := by
    simp only [State.memberSettles, hx, hacc, and_self, if_true, hexch, hu, State.checked_none]
  rw [State.validFrame_of_member hr]
  simp only [State.memberFrame, hd, if_false, ho, ne_eq, not_false_eq_true, reduceCtorEq, and_false, hstate, hs, if_true,
    hsettles]

/-- A reply frame to a persona is counted STRAY (log 12). -/
theorem State.dispatch_reply {j : Fin 4} (hs : (s.lsn j).sound = true) (hk : f.kind = .ack ∨ f.kind = .nak) :
    s.dispatch (some j) f = s.bump .stray := by
  rcases hk with hk | hk <;> simp [State.dispatch, hs, unsound, State.checked, hk]

/-- The attempt of a member that ended in `v`: the link returns to Idle and the frame is counted STRAY. -/
theorem State.validFrame_memberEnds (ha : s.MemberAwaits k m) (hrun : s.ExchangeRuns) (hd : f.dest ≠ 127)
    (ho : s.owner f.dest = some s.link.x.lslot) (hacc : s.link.x.accepts f = true) {v : State}
    (hv : s.restartAnchor.memberAck f = v.unlessHalted State.toIdle) (hh : v.halted = false)
    (hsound : (v.lsn s.link.x.lslot).sound = true) (hk : f.kind = .ack ∨ f.kind = .nak) :
    s.validFrame f = v.toIdle.bump .stray := by
  rw [State.validFrame_memberReply ha hrun hd ho hacc, hv, State.unlessHalted_of_not _ hh,
    State.unlessHalted_of_not _ (v.halted_toIdle.trans hh)]
  refine State.dispatch_reply ?_ hk
  rw [State.lsn, v.toIdle_frame.2.2.2.2.1]
  exact hsound

theorem State.memberAck_ack (hk : f.kind = .ack) (hx : s.link.x.slot = some k) :
    s.memberAck f = ((s.setLsn s.link.x.lslot { s.lsn s.link.x.lslot with
      outSeq := !(s.lsn s.link.x.lslot).outSeq }).endMessage k .ok).unlessHalted State.toIdle := by
  simp only [State.memberAck, hk, if_true, hx, State.messageReply]

theorem State.memberAck_nak (hk : f.kind = .nak) (hx : s.link.x.slot = some k) :
    s.memberAck f = (s.messageReply k f).unlessHalted State.toIdle := by
  have hna : ¬f.kind = .ack := by rw [hk]; exact fun e => nomatch e
  simp only [State.memberAck, hna, if_false, hx]

theorem State.lsn_congr (h : t.listen = s.listen) (j : Fin 4) : t.lsn j = s.lsn j := by rw [State.lsn, State.lsn, h]

/-- A message's ACK at a member. -/
theorem State.validFrame_memberAck (ha : s.MemberAwaits k m) (hrun : s.ExchangeRuns) (hd : f.dest ≠ 127)
    (ho : s.owner f.dest = some s.link.x.lslot) (hk : f.kind = .ack) (hseq : f.seq = s.link.x.seq) :
    ∃ v : State, s.validFrame f = v.toIdle.bump .stray ∧ v.LinkStays ∧ v.counters = s.counters ∧
      v.slot k = some { m.ended with code := .ok, phase := .finishing .held } ∧
      v.cq.holding = s.cq.holding ++ [({ m.ended with code := .ok } : Message).entry k] ∧
      v.lsn s.link.x.lslot =
        { s.lsn s.link.x.lslot with outSeq := !(s.lsn s.link.x.lslot).outSeq } := by
  obtain ⟨hr, -, hkind, hx, hm⟩ := id ha
  obtain ⟨hu, hh, hstays⟩ := id hrun
  have hacc := Exchange.accepts_ack (.inr hkind) hk hseq
  obtain ⟨-, hhalt, hslots, hlisten, -, hx', -, hcounters, hcq, -⟩ := s.restartAnchor_exchange
  have hsound := State.lsn_sound_of_exchange hu hr hkind
  have hstays' := State.restartAnchor_stays hstays
  have hack := State.memberAck_ack (s := s.restartAnchor) (k := k) hk (by rw [hx']; exact hx)
  rw [hx'] at hack
  have hlsn := State.lsn_congr hlisten s.link.x.lslot
  let v := s.restartAnchor.setLsn s.link.x.lslot { s.restartAnchor.lsn s.link.x.lslot with
    outSeq := !(s.restartAnchor.lsn s.link.x.lslot).outSeq }
  have hm' : v.slot k = some m := by
    change s.restartAnchor.slot k = _
    rw [State.slot, hslots]
    exact hm
  have hself : v.lsn s.link.x.lslot = _ := State.lsn_setLsn_self s.restartAnchor s.link.x.lslot _
  obtain ⟨hhalt', hlink', -, hlisten', hcounters', -, hslot, hholding⟩ := State.ackEnds_facts hm'
  have hlsn' : (v.endMessage k .ok).lsn s.link.x.lslot =
      { s.lsn s.link.x.lslot with outSeq := !(s.lsn s.link.x.lslot).outSeq } := by
    rw [State.lsn_congr hlisten', hself, hlsn]
  refine ⟨v.endMessage k .ok, State.validFrame_memberEnds ha hrun hd ho hacc hack (hhalt'.trans (hhalt.trans hh))
    (by rw [hlsn']; exact hsound) (.inl hk), ?_, hcounters'.trans hcounters, hslot, ?_, hlsn'⟩
  · rw [State.LinkStays, hlink']
    exact hstays'
  · rw [hholding]
    exact congrArg (fun q : Completion => q.holding ++ _) hcq

/-- Settles O21: the message ends OK and the link is Idle; at a member the frame is then counted STRAY. -/
theorem outboundAcknowledged : Obligations.OutboundAcknowledged := by
  refine ⟨fun s f k m hr hs hmet hk hx hm hu hh hstays h0 h1 hsrc hf hseq => ?_,
    fun s f k m ha hrun hd ho hk hseq => ?_⟩
  · have hw : (s.awaitingReply && s.link.x.met) = true := by
      rw [State.awaitingReply_of hs (by rw [hk]; exact fun e => nomatch e), hmet]
      rfl
    obtain ⟨v, hv, hlink, hcounters, hslot, hholding, hstation⟩ :=
      State.validFrame_outboundAck hr hw hk hx hm hu hh hsrc hf hseq h0 h1
    obtain ⟨hslots, hstn, hcount, hcq, -⟩ := v.toIdle_frame
    have hstays' : v.LinkStays := by rw [State.LinkStays, hlink]; exact hstays
    rw [hv]
    refine ⟨(State.station_congr hstn _).trans hstation, ?_, by rw [hcq, hholding]; rfl, ?_, hcount.trans hcounters⟩
    · rw [State.slot, hslots]
      exact hslot
    · rw [State.toIdle_link_of_stays hstays']
      rfl
  · obtain ⟨v, hv, hstays, hcounters, hslot, hholding, hlsn⟩ := State.validFrame_memberAck ha hrun hd ho hk hseq
    obtain ⟨hslots, -, hcount, hcq, hlisten, -⟩ := v.toIdle_frame
    rw [hv]
    refine ⟨(State.lsn_congr hlisten _).trans hlsn, ?_, ?_, ?_, ?_⟩
    · change v.toIdle.slot k = _
      rw [State.slot, hslots]
      exact hslot
    · change v.toIdle.cq.holding = _
      rw [hcq, hholding]
      rfl
    · change v.toIdle.link.state = _
      rw [State.toIdle_link_of_stays hstays]
      rfl
    · change satInc v.toIdle.counters.stray = _
      rw [hcount, hcounters]

end Sys2Proof.Machine
end

section
/-! PROOFS. NAKs, bad replies, timeouts and SYNCs (chapter 3). -/

namespace Sys2Proof.Machine

set_option Elab.async false

variable {s t u : State} {k : Fin 2} {m : Message} {n : Snapshot} {c : AttemptCause} {f : Frame}

/-! ## NAKs -/

/-- A NAK to the anchor's outbound attempt, before the link returns to Idle (R45). -/
theorem State.validFrame_outboundNak (hr : s.line.role = .anchor) (hw : (s.awaitingReply && s.link.x.met) = true)
    (hk : s.link.x.kind = .outbound) (hx : s.link.x.slot = some k) (hm : s.slot k = some m) (hn : m.snap = some n)
    (he : n.e.err = false) (hu : s.exchangeUnsound = none) (hh : s.halted = false) (hsrc : f.src = s.link.x.station)
    (hf : f.kind = .nak) :
    ∃ w : State, s.validFrame f = (w.messageReply k f).toIdle ∧ w.slots = s.slots ∧ w.rings = s.rings ∧
      w.link = s.link ∧ w.cq = s.cq := by
  have hmarks := s.marks_replyMark s.link.x.station
  obtain ⟨hslots, hrings, hlink, hcq, -, -, -, -, -, -, -, -, hhalt⟩ := hmarks.frame
  have hm' : (s.replyMark s.link.x.station).slot k = some m := by rw [State.slot, hslots]; exact hm
  have hhalt' := (State.messageReply_nak_frame hf hm' hn he).1
  refine ⟨s.replyMark s.link.x.station, ?_, hslots, hrings, hlink, hcq⟩
  rw [State.validFrame_of_anchor hr, State.anchorFrame_of_classed hw hsrc (by rw [hf]; exact fun e => nomatch e)
    (by rw [hf]; exact fun e => nomatch e) hu, if_pos (Exchange.accepts_nak (.inl hk) hf),
    State.anchorReply_outbound f hk, State.outboundReply_nak hf hx,
    State.unlessHalted_of_not _ (hhalt'.trans (hhalt.trans hh))]

/-- A NAK to a member's DATA (R57, log 12). -/
theorem State.validFrame_memberNak (ha : s.MemberAwaits k m) (hrun : s.ExchangeRuns) (hn : m.snap = some n)
    (he : n.e.err = false) (hd : f.dest ≠ 127) (ho : s.owner f.dest = some s.link.x.lslot) (hk : f.kind = .nak) :
    s.validFrame f = (s.restartAnchor.messageReply k f).toIdle.bump .stray := by
  obtain ⟨hr, -, hkind, hx, hm⟩ := id ha
  obtain ⟨hu, hh, -⟩ := id hrun
  obtain ⟨-, hhalt, hslots, hlisten, -, hx', -⟩ := s.restartAnchor_exchange
  have hm' : s.restartAnchor.slot k = some m := by rw [State.slot, hslots]; exact hm
  obtain ⟨hhalt', -, -, hlisten', -⟩ := State.messageReply_nak_frame hk hm' hn he
  refine State.validFrame_memberEnds ha hrun hd ho (Exchange.accepts_nak (.inr hkind) hk)
    (State.memberAck_nak hk (by rw [hx']; exact hx)) (hhalt'.trans (hhalt.trans hh)) ?_ (.inr hk)
  rw [State.lsn_congr hlisten', State.lsn_congr hlisten]
  exact State.lsn_sound_of_exchange hu hr hkind

/-- A frame from elsewhere, a POLL or a SYNC resumes a window whose deadline lies ahead (R37, R44). -/
theorem State.resumeWindow_of_open (h : s.link.x.passed = false) :
    s.resumeWindow = s.setLink { s.link with x := { s.link.x with met := false } } := by
  simp [State.resumeWindow, h]

/-- The kinds of frame that are no reply to DATA, from the station awaited (R44). -/
theorem Exchange.not_accepts {x : Exchange} (h : x.kind = .outbound)
    (hf : f.kind = .data ∨ f.kind = .none ∨ (f.kind = .ack ∧ f.seq ≠ x.seq)) : x.accepts f = false := by
  rw [Exchange.accepts_message (.inl h)]
  rcases hf with hf | hf | ⟨hf, hs⟩ <;> simp [hf]
  exact hs

/-- Settles O22: a NAK ends the exchange and its code decides the message; what is no reply is STRAY. -/
theorem outboundNaks : Obligations.OutboundNaks := by
  refine ⟨fun s f k m n hr hs hmet hk hx hm hn he hp hu hh hstays hsrc hf => ?_,
    fun s f k m n ha hin hrun hd ho hk => ?_, fun s f hr => ⟨fun hw => ?_, fun hw hf hpass => ?_⟩,
    fun s f k m n ha hrun hx hm hin hmore hsil hsrc hf => ?_⟩
  · have hw : (s.awaitingReply && s.link.x.met) = true := by
      rw [State.awaitingReply_of hs (by rw [hk]; exact fun e => nomatch e), hmet]
      rfl
    obtain ⟨w, hv, hslots, hrings, hlink, hcq⟩ :=
      State.validFrame_outboundNak hr hw hk hx hm hn he hu hh hsrc hf
    have hm' : w.slot k = some m := by rw [State.slot, hslots]; exact hm
    obtain ⟨-, hlink', hlen, -, -⟩ := State.messageReply_nak_frame hf hm' hn he
    obtain ⟨hrefused, hlimit, hbelow⟩ := State.messageReply_nak_slot hf hm' hn he
    obtain ⟨hslots', -, -, hcq', -⟩ := (w.messageReply k f).toIdle_frame
    have hslot : (s.validFrame f).slot k = (w.messageReply k f).slot k := by rw [hv, State.slot, hslots']; rfl
    have hstays' : (w.messageReply k f).LinkStays := by rw [State.LinkStays, hlink', hlink]; exact hstays
    refine ⟨?_, ?_, fun hd => hslot.trans (hrefused hd), fun hd h0 hf' => hslot.trans (hlimit hd h0 hf'),
      fun hd hb hrun => hslot.trans (hbelow hd hb ?_)⟩
    · rw [hv, State.toIdle_link_of_stays hstays']
      rfl
    · rw [hv, hcq', ← hcq]
      exact hlen
    · rw [State.ring, hrings]
      exact hrun
  · obtain ⟨hn, he, -, hring⟩ := hin
    obtain ⟨-, -, -, -, hm⟩ := id ha
    obtain ⟨-, -, hstays⟩ := id hrun
    have hv := State.validFrame_memberNak ha hrun hn he hd ho hk
    obtain ⟨-, -, hslots, hlisten, hrings, -, -, hcounters, -⟩ := s.restartAnchor_exchange
    have hm' : s.restartAnchor.slot k = some m := by rw [State.slot, hslots]; exact hm
    obtain ⟨-, hlink', -, hlisten', hcounters'⟩ := State.messageReply_nak_frame hk hm' hn he
    obtain ⟨hrefused, hlimit, hbelow⟩ := State.messageReply_nak_slot hk hm' hn he
    obtain ⟨hslots', -, hcount, -, hlisten'', -⟩ := (s.restartAnchor.messageReply k f).toIdle_frame
    have hslot : (s.validFrame f).slot k = (s.restartAnchor.messageReply k f).slot k := by
      rw [hv]
      change (s.restartAnchor.messageReply k f).toIdle.slot k = _
      rw [State.slot, hslots']
      rfl
    have hstays' : (s.restartAnchor.messageReply k f).LinkStays := by
      rw [State.LinkStays, hlink']
      exact State.restartAnchor_stays hstays
    refine ⟨?_, ?_, ?_, fun hd => hslot.trans (hrefused hd), fun hd h0 hf => hslot.trans (hlimit hd h0 hf),
      fun hd hb => hslot.trans (hbelow hd hb ?_)⟩
    · rw [hv]
      change (s.restartAnchor.messageReply k f).toIdle.link.state = _
      rw [State.toIdle_link_of_stays hstays']
      rfl
    · rw [hv]
      change (s.restartAnchor.messageReply k f).toIdle.listen = _
      rw [hlisten'', hlisten', hlisten]
    · rw [hv]
      change satInc (s.restartAnchor.messageReply k f).toIdle.counters.stray = _
      rw [hcount, hcounters', hcounters]
    · rw [State.ring, hrings]
      exact hring
  · rw [State.validFrame_of_anchor hr, State.anchorFrame_of_closed f hw]
  · rw [State.validFrame_of_anchor hr, State.anchorFrame_of_other hw hf, State.resumeWindow_of_open (by exact hpass)]
    rfl
  · obtain ⟨hr, -, -, hk, h0, h1⟩ := id ha
    obtain ⟨hu, hh, hstays⟩ := hrun
    have hlast : m.lastAttempt s.link.x.beganSilent = false := by
      rw [← Bool.not_eq_true, Message.lastAttempt_iff hin.1, hsil]
      rintro (h | h)
      · exact hmore h
      · cases h
    have hpoll : f.kind ≠ .poll := by rcases hf with h | h | ⟨h, -⟩ <;> (rw [h]; exact fun e => nomatch e)
    have hsync : f.kind ≠ .sync := by rcases hf with h | h | ⟨h, -⟩ <;> (rw [h]; exact fun e => nomatch e)
    have hv : s.validFrame f = (s.bump .stray).failExchange .badReply := by
      rw [State.validFrame_of_anchor hr, State.anchorFrame_of_classed (ha.window (fun e => nomatch e)) hsrc hpoll hsync hu,
        if_neg (ne_true_of_eq_false (Exchange.not_accepts hk hf))]
    obtain ⟨hslot, hcount, hstation⟩ := State.failExchange_outbound_facts (s := s.bump .stray) .badReply hr hu hh hk hx
      hm hin h0 h1
    have hlink := State.failExchange_outbound_link (s := s.bump .stray) .badReply hu hh hk hx hm hin hstays
    rw [hv]
    refine ⟨hslot.trans ?_, hstation.trans ?_, by rw [hlink]; rfl, by rw [hcount]; rfl⟩
    · change some (m.afterFailure n .badReply s.link.x.beganSilent) = _
      rw [Message.afterFailure, hlast]
      rfl
    · change (s.station s.link.x.station).failed s.line.missEff .badReply (m.lastAttempt s.link.x.beganSilent) = _
      rw [hlast, Station.failed_of_heard (c := .badReply) _ (fun e => nomatch e)]

/-! ## The reply window expires (R37) -/

/-- A failed attempt of a member: its message, its slot, and nothing else but the link. -/
theorem State.failExchange_member_facts (c : AttemptCause) (hu : s.exchangeUnsound = none) (hh : s.halted = false)
    (hk : s.link.x.kind = .member) (hx : s.link.x.slot = some k) (hm : s.slot k = some m) (h : s.ReadyIn m n)
    (hs : s.LinkStays) :
    let u := s.failExchange c
    u.slot k = some (m.afterFailure n c false) ∧ u.counters = s.counters ∧ u.stn = s.stn ∧ u.link = s.link.idled ∧
      u.listen = (if m.lastAttempt false then
        s.setLsn s.link.x.lslot { s.lsn s.link.x.lslot with resyncWanted := true } else s).listen := by
  intro u
  have hu : u = _ := State.failExchange_member c hu hh hk hx hm h
  clear_value u
  subst hu
  have hframe : ∀ v : State, (if m.lastAttempt false then
      s.setLsn s.link.x.lslot { s.lsn s.link.x.lslot with resyncWanted := true } else s) = v →
      v.counters = s.counters ∧ v.stn = s.stn := by
    rintro v rfl
    split <;> exact ⟨rfl, rfl⟩
  generalize (if m.lastAttempt false then
    s.setLsn s.link.x.lslot { s.lsn s.link.x.lslot with resyncWanted := true } else s) = v at hframe ⊢
  obtain ⟨hcounters, hstn⟩ := hframe v rfl
  rw [State.toIdle_of_stays (by exact hs)]
  exact ⟨State.slot_setSlot_self v k _, hcounters, hstn, rfl, rfl⟩

/-- The state in which the deadline has passed and TIMEOUTS has counted. -/
def State.timedOut (s : State) : State :=
  (s.setLink { s.link with x := { s.link.x with passed := true } }).bump .timeouts

/-- An unmet window with no character in time expires at its deadline (R37). -/
theorem State.deadlinePasses_of_unmet (ha : s.awaitingReply = true) (hm : s.link.x.met = false)
    (hc : (s.rx.inChar && s.link.x.inTime) = false) : s.deadlinePasses = s.timedOut.failExchange .timeout := by
  have hno : (s.link.x.met || (s.rx.inChar && s.link.x.inTime)) = false := by rw [hm, hc]; rfl
  simp only [State.deadlinePasses, ha, if_true, hno, Bool.false_eq_true, if_false]
  rfl

theorem exec_replyWindowExpiry (h : s.due.awake = true) :
    exec .replyWindowExpiry s = .next s.due.deadlinePasses.settle := congrArg _ (State.event_of_awake _ h)

/-- An outbound attempt whose window expires (R46). -/
theorem State.deadlinePasses_outbound (hr : s.line.role = .anchor) (hs : s.link.state = .awaiting)
    (hk : s.link.x.kind = .outbound) (hmet : s.link.x.met = false) (hc : (s.rx.inChar && s.link.x.inTime) = false)
    (hrun : s.ExchangeRuns) (hx : s.link.x.slot = some k) (hm : s.slot k = some m) (hin : s.ReadyIn m n)
    (h0 : s.link.x.station ≠ 0) (h1 : s.link.x.station ≠ 127) :
    let u := s.deadlinePasses
    u.counters.timeouts = satInc s.counters.timeouts ∧ u.link = s.timedOut.link.idled ∧
      u.slot k = some (m.afterFailure n .timeout s.link.x.beganSilent) ∧
      u.station s.link.x.station = (s.station s.link.x.station).failed s.line.missEff .timeout
        (m.lastAttempt s.link.x.beganSilent) := by
  obtain ⟨hu, hh, hstays⟩ := hrun
  rw [State.deadlinePasses_of_unmet (State.awaitingReply_of hs (by rw [hk]; exact fun e => nomatch e)) hmet hc]
  obtain ⟨hslot, hcount, hstation⟩ := State.failExchange_outbound_facts (s := s.timedOut) .timeout hr hu hh hk hx
    hm hin h0 h1
  have hlink := State.failExchange_outbound_link (s := s.timedOut) .timeout hu hh hk hx hm hin hstays
  exact ⟨by rw [hcount]; rfl, hlink, hslot, hstation⟩

/-- A poll whose window expires (R48). -/
theorem State.deadlinePasses_poll (hr : s.line.role = .anchor) (hs : s.link.state = .awaiting)
    (hk : s.link.x.kind = .poll) (hmet : s.link.x.met = false) (hc : (s.rx.inChar && s.link.x.inTime) = false)
    (hrun : s.ExchangeRuns) (h0 : s.link.x.station ≠ 0) (h1 : s.link.x.station ≠ 127) :
    let u := s.deadlinePasses
    u.counters.timeouts = satInc s.counters.timeouts ∧ u.link = s.timedOut.link.idled ∧ u.slots = s.slots ∧
      u.station s.link.x.station = (s.station s.link.x.station).failed s.line.missEff .timeout false := by
  obtain ⟨hu, hh, hstays⟩ := hrun
  rw [State.deadlinePasses_of_unmet (State.awaitingReply_of hs (by rw [hk]; exact fun e => nomatch e)) hmet hc]
  obtain ⟨hslots, hcount, hstation⟩ := State.failExchange_poll_facts (s := s.timedOut) .timeout hr hu hh hk h0 h1
  have hlink := State.failExchange_poll_link (s := s.timedOut) .timeout hu hh hk hstays
  exact ⟨by rw [hcount]; rfl, hlink, hslots, hstation⟩

/-- A member's attempt whose window expires (R57). -/
theorem State.deadlinePasses_member (ha : s.MemberAwaits k m) (hin : s.ReadyIn m n) (hrun : s.ExchangeRuns)
    (hmet : s.link.x.met = false) (hc : (s.rx.inChar && s.link.x.inTime) = false) :
    let u := s.deadlinePasses
    u.counters.timeouts = satInc s.counters.timeouts ∧ u.link = s.timedOut.link.idled ∧ u.stn = s.stn ∧
      u.slot k = some (m.afterFailure n .timeout false) ∧
      u.listen = (if m.lastAttempt false then
        s.setLsn s.link.x.lslot { s.lsn s.link.x.lslot with resyncWanted := true } else s).listen := by
  obtain ⟨-, hs, hk, hx, hm⟩ := ha
  obtain ⟨hu, hh, hstays⟩ := hrun
  rw [State.deadlinePasses_of_unmet (State.awaitingReply_of hs (by rw [hk]; exact fun e => nomatch e)) hmet hc]
  obtain ⟨hslot, hcount, hstn, hlink, hlisten⟩ :=
    State.failExchange_member_facts (s := s.timedOut) .timeout hu hh hk hx hm hin hstays
  refine ⟨by rw [hcount]; rfl, hlink, hstn, hslot, hlisten.trans ?_⟩
  split <;> rfl

theorem Message.afterFailure_of_last {silent : Bool} (h : m.lastAttempt silent = true) (n : Snapshot)
    (c : AttemptCause) : m.afterFailure n c silent = (m.tried c).failed n .noReply := if_pos h

theorem Message.afterFailure_of_more {silent : Bool} (h : ¬m.lastAttempt silent = true) (n : Snapshot)
    (c : AttemptCause) : m.afterFailure n c silent = m.tried c := if_neg h

/-- Settles O23: the window that expires fails its attempt or poll with TIMEOUT. -/
theorem outboundTimesOut : Obligations.OutboundTimesOut := by
  refine ⟨fun s k m n haw hr hs hk hmet hc hu hx hm hn he hp hring hstays h0 h1 => ?_,
    fun s haw hr hs hk hmet hc hrun h0 h1 => ?_, fun s k m n haw ha hin hrun hmet hc => ?_⟩
  · intro a last m1
    obtain ⟨hcount, hlink, hslot, hstation⟩ := State.deadlinePasses_outbound hr hs hk hmet hc
      ⟨hu, State.halted_of_awake haw, hstays⟩ hx hm ⟨hn, he, hp, hring⟩ h0 h1
    have hlast : m.lastAttempt s.due.link.x.beganSilent = true ↔ last := Message.lastAttempt_iff hn _
    refine ⟨_, exec_replyWindowExpiry haw, hcount, by rw [hlink]; rfl, ?_, ?_, fun hmore => ?_, fun hl => ⟨?_, ?_⟩⟩
    · rw [hstation, Station.failed_errCount]
    · rw [hstation, Station.failed_missCount]
    · rw [hslot, Message.afterFailure_of_more fun h => hmore (hlast.mp h)]
      rfl
    · rw [hstation, hlast.mpr hl, Station.failed_resyncNeeded]
    · rw [hslot, Message.afterFailure_of_last (hlast.mpr hl)]
      rfl
  · intro a
    obtain ⟨hcount, hlink, hslots, hstation⟩ := State.deadlinePasses_poll hr hs hk hmet hc hrun h0 h1
    refine ⟨_, exec_replyWindowExpiry haw, hcount, by rw [hlink]; rfl, hslots, ?_, ?_⟩
    · rw [hstation, Station.failed_errCount]
    · rw [hstation, Station.failed_missCount]
  · intro m1 l
    obtain ⟨hcount, hlink, hstn, hslot, hlisten⟩ := State.deadlinePasses_member ha hin hrun hmet hc
    have hlast : m.lastAttempt false = true ↔ m.attempts = n.e.retry.toNat := by
      rw [Message.lastAttempt_iff hin.1]
      exact or_iff_left Bool.false_ne_true
    refine ⟨_, exec_replyWindowExpiry haw, hcount, by rw [hlink]; rfl, hstn, fun hmore => ?_, fun hl => ?_⟩
    · have hno : ¬m.lastAttempt false = true := fun h => hmore (hlast.mp h)
      rw [hslot, hlisten, Message.afterFailure_of_more hno, if_neg hno]
      exact ⟨rfl, rfl⟩
    · rw [hslot, State.lsn, hlisten, Message.afterFailure_of_last (hlast.mpr hl), if_pos (hlast.mpr hl)]
      exact ⟨State.lsn_setLsn_self s.due l _, rfl⟩

/-! ## SYNCs -/

theorem State.memberReply_of_idle (k : Fin 4) (slot : Option (Fin 2)) (out : OutFrame) (h : s.link.state = .idle) :
    s.memberReply k slot out = s.setLink { s.link with
      state := .guard,
      x := { kind := .member, station := (s.lsn k).address, lslot := k, slot := slot, out := out } } := if_pos h

theorem State.dispatch_sync {j : Fin 4} (hs : (s.lsn j).sound = true) (hk : f.kind = .sync) :
    s.dispatch (some j) f = (s.setLsn j (s.lsn j).synced).memberReply j none { kind := .ack } := by
  simp [State.dispatch, hs, unsound, State.checked, hk]

theorem State.dispatch_syncAll (hs : s.listenUnsound = false) (hk : f.kind = .sync) :
    s.dispatch none f = s.syncSlots := by
  simp [State.dispatch, hs, unsound, State.checked, hk]

/-- ACK(0) to a directed sync whose message's ring, if it has one, is Running (R50). -/
theorem State.dsyncAck_of_running
    (h : ∀ (k : Fin 2) (m : Message), s.link.x.slot = some k → s.slot k = some m → (s.ring m.ring).state = .running) :
    s.dsyncAck = ((s.setStation s.link.x.station { s.station s.link.x.station with
      outSeq := false, inSeq := none, resyncNeeded := false }).replyMark s.link.x.station).unlessHalted State.toIdle := by
  have hmarks := (s.marks_setStation s.link.x.station { s.station s.link.x.station with
      outSeq := false, inSeq := none, resyncNeeded := false }).trans (State.marks_replyMark _ s.link.x.station)
  obtain ⟨hslots, hrings, -⟩ := hmarks.frame
  unfold State.dsyncAck
  dsimp only
  generalize (s.setStation s.link.x.station { s.station s.link.x.station with
      outSeq := false, inSeq := none, resyncNeeded := false }).replyMark s.link.x.station = v at hslots hrings ⊢
  cases hx : s.link.x.slot with
  | none => rfl
  | some k =>
    have hsettle : v.settleStopping k = v := by
      cases hm : s.slot k with
      | none =>
        have hv : v.slot k = none := by rw [State.slot, hslots]; exact hm
        simp [State.settleStopping, hv]
      | some m =>
        have hv : v.slot k = some m := by rw [State.slot, hslots]; exact hm
        refine State.settleStopping_of_running hv ?_
        rw [State.ring, hrings]
        exact h k m hx hm
    exact congrArg (State.unlessHalted · State.toIdle) hsettle

/-- Settles O26: a SYNC resets what it addresses; the anchor's own ends with the station's record reset. -/
theorem memberSyncs : Obligations.MemberSyncs := by
  refine ⟨fun s f hk => ⟨fun j hs hidle => ?_, fun hs => ?_⟩, fun s f ha hrun hsrc hk hseq hring => ?_⟩
  · rw [State.dispatch_sync hs hk, State.memberReply_of_idle j none _ (by exact hidle)]
    have hself := s.lsn_setLsn_self j (s.lsn j).synced
    exact ⟨hself, fun i hi => State.lsn_setLsn_other _ (Ne.symm hi), rfl, rfl,
      (congrArg ListenSlot.address hself).trans rfl⟩
  · rw [State.dispatch_syncAll hs hk]
    exact ⟨rfl, s.lsn_syncSlots⟩
  · obtain ⟨hr, -, -, hkind, h0, h1⟩ := id ha
    obtain ⟨hu, hh, hstays⟩ := hrun
    have hacc : s.link.x.accepts f = true := by simp [Exchange.accepts, hkind, hk, hseq]
    have hmarks := (s.marks_setStation s.link.x.station { s.station s.link.x.station with
      outSeq := false, inSeq := none, resyncNeeded := false }).trans (State.marks_replyMark _ s.link.x.station)
    have hstation := State.station_replyMark (s := s.setStation s.link.x.station { s.station s.link.x.station with
      outSeq := false, inSeq := none, resyncNeeded := false }) h0 h1
    rw [State.station_setStation_self _ h0 h1] at hstation
    obtain ⟨hslots, -, hlink, -, -, hcounters, -, -, -, -, -, -, hhalt⟩ := hmarks.frame
    have hv : s.validFrame f = s.dsyncAck := by
      rw [State.validFrame_of_anchor hr, State.anchorFrame_of_classed (ha.window (fun e => nomatch e)) hsrc
        (by rw [hk]; exact fun e => nomatch e) (by rw [hk]; exact fun e => nomatch e) hu, if_pos hacc,
        State.anchorReply_dsync f hkind]
    rw [hv, State.dsyncAck_of_running hring]
    generalize (s.setStation s.link.x.station { s.station s.link.x.station with
      outSeq := false, inSeq := none, resyncNeeded := false }).replyMark s.link.x.station = v at *
    rw [State.unlessHalted_of_not _ (hhalt.trans hh),
      State.toIdle_of_stays (by rw [State.LinkStays, hlink]; exact hstays)]
    exact ⟨hstation, rfl, hslots, hcounters⟩

end Sys2Proof.Machine
end

section
/-! PROOFS. The shape of sent frames (R18); the inbound decision and the answer to a POLL (R39, R40, R48, R55). -/

namespace Sys2Proof.Machine

set_option Elab.async false

variable {s t u : State} {f : Frame}

/-! ## Sent frames -/

theorem length_frameBody (src : LineAddr) (k : Kind) (q : Bool) (d : BitVec 3) (port : BitVec 4) (payload : List Byte) :
    (frameBody src k q d port payload).length = if k = .data then 4 + payload.length else 2 := by
  unfold frameBody
  split
  · simp only [List.length_cons]
    omega
  · rfl

theorem frameChars_eq (dest src : LineAddr) (k : Kind) (q : Bool) (d : BitVec 3) (port : BitVec 4)
    (payload : List Byte) :
    frameChars dest src k q d port payload =
      let body := frameBody src k q d port payload
      ⟨0#1 ++ dest, true⟩ ::
        (body ++ [(crcOf body).extractLsb' 8 8, (crcOf body).extractLsb' 0 8]).map (⟨·, false⟩) := rfl

/-- Settles O19: the head character alone carries tag 1. -/
theorem sentFrameShape : Obligations.SentFrameShape := by
  intro dest src k q d port payload
  refine ⟨?_, _, frameChars_eq dest src k q d port payload, fun c hc => ?_⟩
  · rw [frameChars_eq]
    simp only [List.length_cons, List.length_map, List.length_append, length_frameBody, List.length_nil]
    split <;> omega
  · obtain ⟨b, -, rfl⟩ := List.mem_map.mp hc
    rfl

/-! ## The inbound decision (R39) -/

theorem State.inbound_eq_refused {accept : Bool} {q : Option Bool} {b : Bool} (h : s.rxp.en = false ∨ accept = false) :
    s.inbound accept q b = .refused := by
  rcases h with h | h <;> simp [State.inbound, h]

theorem State.inbound_eq_duplicate {accept : Bool} {q : Option Bool} {b : Bool} (he : s.rxp.en = true)
    (ha : accept = true) (h : q = some b) : s.inbound accept q b = .duplicate := by
  simp [State.inbound, he, ha, h]

theorem State.inbound_eq_full {accept : Bool} {q : Option Bool} {b : Bool} (he : s.rxp.en = true) (ha : accept = true)
    (h : q ≠ some b) (hl : 2 ≤ s.rxp.buffers.length) : s.inbound accept q b = .full := by
  simp [State.inbound, he, ha, h, Config.rxBuffers, hl]

theorem State.inbound_eq_accepted {accept : Bool} {q : Option Bool} {b : Bool} (he : s.rxp.en = true)
    (ha : accept = true) (h : q ≠ some b) (hl : s.rxp.buffers.length < 2) : s.inbound accept q b = .accepted := by
  simp [State.inbound, he, ha, h, Config.rxBuffers, Nat.not_le.mpr hl]

/-- What a decision changes besides InSeq never is the link, a station or a listen slot. -/
theorem State.applyInbound_frame (s : State) (i : Inbound) (f : RxFrame) :
    (s.applyInbound i f).link = s.link ∧ (s.applyInbound i f).stn = s.stn ∧ (s.applyInbound i f).listen = s.listen := by
  cases i <;> exact ⟨rfl, rfl, rfl⟩

/-! ## At a member -/

/-- A member's DATA as it joins the receive buffers (R122). -/
def Frame.forPersona (f : Frame) (k : Fin 4) : RxFrame :=
  { peer := 0, port := f.port, payload := f.payload, persona := k, bcast := false }

/-- Every case but acceptance leaves the persona's InSeq. -/
theorem State.memberData_of_other {k : Fin 4} {i : Inbound} (h : s.inbound true (s.lsn k).inSeq f.seq = i)
    (hi : i ≠ .accepted) :
    s.memberData k f = (s.applyInbound i (f.forPersona k)).memberReply k none (i.reply f.seq) := by
  simp only [State.memberData, h, hi, if_false]
  rfl

theorem State.memberData_of_accepted {k : Fin 4} (h : s.inbound true (s.lsn k).inSeq f.seq = .accepted) :
    s.memberData k f = ((s.stageRx (f.forPersona k)).setLsn k { s.lsn k with inSeq := some f.seq }).memberReply k none
      { kind := .ack, seq := f.seq } := by
  simp only [State.memberData, h, if_true]
  rfl

/-- The link with a member's reply waiting in Guard (R54). -/
def Link.replying (l : Link) (a : LineAddr) (k : Fin 4) (slot : Option (Fin 2)) (out : OutFrame) : Link :=
  { l with state := .guard, x := { kind := .member, station := a, lslot := k, slot := slot, out := out } }

theorem State.memberReply_eq (k : Fin 4) (slot : Option (Fin 2)) (out : OutFrame) (h : s.link.state = .idle) :
    s.memberReply k slot out = s.setLink (s.link.replying (s.lsn k).address k slot out) := if_pos h

theorem State.memberData_link (k : Fin 4) (f : Frame) (h : s.link.state = .idle) :
    (s.memberData k f).link =
      s.link.replying (s.lsn k).address k none ((s.inbound true (s.lsn k).inSeq f.seq).reply f.seq) := by
  by_cases hi : s.inbound true (s.lsn k).inSeq f.seq = .accepted
  · rw [State.memberData_of_accepted hi, State.memberReply_eq k none _ (by exact h), hi]
    have haddr := congrArg ListenSlot.address
      ((s.stageRx (f.forPersona k)).lsn_setLsn_self k { s.lsn k with inSeq := some f.seq })
    exact congrArg (s.link.replying · k none _) haddr
  · obtain ⟨hlink, -, hlisten⟩ := s.applyInbound_frame (s.inbound true (s.lsn k).inSeq f.seq) (f.forPersona k)
    rw [State.memberData_of_other rfl hi, State.memberReply_eq k none _ (by rw [hlink]; exact h), State.setLink_link,
      hlink, State.lsn_congr hlisten]

/-- What a member's DATA leaves besides the link, where it is not accepted. -/
theorem State.memberData_frame {k : Fin 4} {i : Inbound} (h : s.link.state = .idle)
    (hi : s.inbound true (s.lsn k).inSeq f.seq = i) (hne : i ≠ .accepted) :
    let t := s.memberData k f
    let u := s.applyInbound i (f.forPersona k)
    t.rxp = u.rxp ∧ t.listen = u.listen ∧ t.counters = u.counters := by
  have hlink := (s.applyInbound_frame i (f.forPersona k)).1
  rw [State.memberData_of_other hi hne, State.memberReply_eq k none _ (by rw [hlink]; exact h)]
  exact ⟨rfl, rfl, rfl⟩

theorem State.memberData_frame_of_accepted {k : Fin 4} (h : s.link.state = .idle)
    (hi : s.inbound true (s.lsn k).inSeq f.seq = .accepted) :
    let t := s.memberData k f
    (t.lsn k).inSeq = some f.seq ∧ t.counters = s.counters ∧ t.rxp.buffers = s.rxp.buffers ++ [f.forPersona k] := by
  rw [State.memberData_of_accepted hi, State.memberReply_eq k none _ (by exact h)]
  exact ⟨congrArg ListenSlot.inSeq ((s.stageRx (f.forPersona k)).lsn_setLsn_self k _), rfl, rfl⟩

/-! ## At the anchor's poll (R48, R49) -/

/-- The polled station's DATA as it joins the receive buffers (R122). -/
def Frame.fromStation (f : Frame) (a : LineAddr) : RxFrame :=
  { peer := a, port := f.port, payload := f.payload, persona := 0, bcast := false }

/-- The link with the anchor's own reply to polled DATA waiting in Guard (R49). -/
def Link.tailing (l : Link) (out : OutFrame) : Link :=
  { l with
    state := .guard, x := { l.x with tail := true, out := out, passed := false, met := false, waited := 0 } }

theorem State.pollReply_of_other {i : Inbound} (hk : f.kind = .data)
    (hi : s.inbound (s.station s.link.x.station).accept (s.station s.link.x.station).inSeq f.seq = i)
    (hne : i ≠ .accepted) :
    s.pollReply f =
      let v := (s.replyMark s.link.x.station).applyInbound i (f.fromStation s.link.x.station)
      v.setLink (v.link.tailing (i.reply f.seq)) := by
  simp only [State.pollReply, hk, if_true, hi, hne, if_false]
  rfl

theorem State.pollReply_of_accepted (hk : f.kind = .data)
    (hi : s.inbound (s.station s.link.x.station).accept (s.station s.link.x.station).inSeq f.seq = .accepted) :
    s.pollReply f =
      let w := (s.replyMark s.link.x.station).stageRx (f.fromStation s.link.x.station)
      let v := w.setStation s.link.x.station { w.station s.link.x.station with inSeq := some f.seq }
      v.setLink (v.link.tailing { kind := .ack, seq := f.seq }) := by
  simp only [State.pollReply, hk, if_true, hi]
  rfl

theorem State.pollReply_none (hk : f.kind = .none) :
    s.pollReply f = (if f.detail = detailResync then
      (s.replyMark s.link.x.station).setResync s.link.x.station true else s.replyMark s.link.x.station).toIdle := by
  have hnd : ¬f.kind = .data := by rw [hk]; exact fun e => nomatch e
  simp only [State.pollReply, hnd, if_false]

/-- Polled DATA that is not accepted: the reply mark, and what the decision changes. -/
theorem State.pollReply_frame {i : Inbound} (hk : f.kind = .data)
    (hi : s.inbound (s.station s.link.x.station).accept (s.station s.link.x.station).inSeq f.seq = i)
    (hne : i ≠ .accepted) (h0 : s.link.x.station ≠ 0) (h1 : s.link.x.station ≠ 127) :
    let t := s.pollReply f
    let u := s.applyInbound i (f.fromStation s.link.x.station)
    t.link = s.link.tailing (i.reply f.seq) ∧ t.rxp = u.rxp ∧ t.counters = u.counters ∧
      t.station s.link.x.station = { s.station s.link.x.station with missCount := 0, presence := .active } := by
  obtain ⟨-, -, hlink, -, -, hcounters, hrxp, -⟩ := (s.marks_replyMark s.link.x.station).frame
  have hstation := State.station_replyMark (s := s) h0 h1
  rw [State.pollReply_of_other hk hi hne]
  generalize s.replyMark s.link.x.station = v at hlink hcounters hrxp hstation
  obtain ⟨hlink', hstn, -⟩ := v.applyInbound_frame i (f.fromStation s.link.x.station)
  refine ⟨by rw [State.setLink_link, hlink', hlink], ?_, ?_, (State.station_congr hstn _).trans hstation⟩
  · cases i with
    | accepted => exact absurd rfl hne
    | _ => exact hrxp
  · cases i with
    | accepted => exact absurd rfl hne
    | duplicate => exact congrArg (fun c : Counters => c.put .dup (satInc (c.get .dup))) hcounters
    | _ => exact hcounters

theorem State.pollReply_frame_of_accepted (hk : f.kind = .data)
    (hi : s.inbound (s.station s.link.x.station).accept (s.station s.link.x.station).inSeq f.seq = .accepted)
    (h0 : s.link.x.station ≠ 0) (h1 : s.link.x.station ≠ 127) :
    let t := s.pollReply f
    t.link = s.link.tailing { kind := .ack, seq := f.seq } ∧
      t.rxp.buffers = s.rxp.buffers ++ [f.fromStation s.link.x.station] ∧
      t.station s.link.x.station =
        { s.station s.link.x.station with missCount := 0, presence := .active, inSeq := some f.seq } := by
  obtain ⟨-, -, hlink, -, -, -, hrxp, -⟩ := (s.marks_replyMark s.link.x.station).frame
  have hstation := State.station_replyMark (s := s) h0 h1
  rw [State.pollReply_of_accepted hk hi]
  generalize s.replyMark s.link.x.station = v at hlink hrxp hstation
  have hself := (v.stageRx (f.fromStation s.link.x.station)).station_setStation_self
    { (v.stageRx (f.fromStation s.link.x.station)).station s.link.x.station with inSeq := some f.seq } h0 h1
  obtain ⟨-, -, hlink', -, -, -, hrxp', -⟩ := ((v.stageRx (f.fromStation s.link.x.station)).marks_setStation
    s.link.x.station { (v.stageRx (f.fromStation s.link.x.station)).station s.link.x.station with
      inSeq := some f.seq }).frame
  dsimp only
  refine ⟨?_, ?_, ?_⟩
  · rw [State.setLink_link, hlink']
    exact congrArg (Link.tailing · _) hlink
  · rw [State.setLink_rxp, hrxp']
    exact congrArg (fun r : RxPath => r.buffers ++ _) hrxp
  · refine hself.trans ?_
    change ({ v.station s.link.x.station with inSeq := some f.seq } : Station) = _
    rw [hstation]

/-- What answers a poll in the anchor's open window reaches the poll's reply (R48). -/
theorem State.validFrame_poll (ha : s.AnchorHears .poll) (hrun : s.ExchangeRuns) (hsrc : f.src = s.link.x.station)
    (hk : f.kind = .data ∨ f.kind = .none) : s.validFrame f = s.pollReply f := by
  obtain ⟨hr, -, -, hkind, -, -⟩ := id ha
  have hacc : s.link.x.accepts f = true := by
    rcases hk with hk | hk <;> simp [Exchange.accepts, hkind, hk]
  rw [State.validFrame_of_anchor hr, State.anchorFrame_of_classed (ha.window (fun e => nomatch e)) hsrc
    (by rcases hk with hk | hk <;> (rw [hk]; exact fun e => nomatch e))
    (by rcases hk with hk | hk <;> (rw [hk]; exact fun e => nomatch e)) hrun.1, if_pos hacc,
    State.anchorReply_poll f hkind]

/-- NONE ends the poll: the reply mark, and ResyncNeeded where the station wants one (R48). -/
theorem State.pollReply_none_facts (hk : f.kind = .none) (hs : s.LinkStays) (h0 : s.link.x.station ≠ 0)
    (h1 : s.link.x.station ≠ 127) :
    let t := s.pollReply f
    let heard : Station := { s.station s.link.x.station with missCount := 0, presence := .active }
    t.link = s.link.idled ∧ t.slots = s.slots ∧ t.counters = s.counters ∧
      t.station s.link.x.station =
        (if f.detail = detailResync then { heard with resyncNeeded := true } else heard) := by
  have hstation := State.station_replyMark (s := s) h0 h1
  have hmarks := s.marks_replyMark s.link.x.station
  intro t heard
  have ht : t = _ := State.pollReply_none hk
  clear_value t
  subst ht
  have key (v : State) (hv : s.Marks v) : v.toIdle.link = s.link.idled ∧ v.toIdle.slots = s.slots ∧
      v.toIdle.counters = s.counters := by
    obtain ⟨hslots, -, hlink, -, -, hcounters, -⟩ := hv.frame
    rw [State.toIdle_of_stays (by rw [State.LinkStays, hlink]; exact hs)]
    exact ⟨congrArg Link.idled hlink, hslots, hcounters⟩
  split
  · obtain ⟨hlink, hslots, hcounters⟩ := key _ (hmarks.trans (State.marks_setResync _ s.link.x.station true))
    refine ⟨hlink, hslots, hcounters, ?_⟩
    rw [State.station_congr (State.toIdle_frame _).2.1, State.station_setResync _ h0 h1, hstation]
  · obtain ⟨hlink, hslots, hcounters⟩ := key _ hmarks
    refine ⟨hlink, hslots, hcounters, ?_⟩
    rw [State.station_congr (State.toIdle_frame _).2.1, hstation]

/-! ## The choice of a message (R41, R55) -/

theorem State.lowerClass_iff {i j : Fin 2} {m n : Message} (hi : s.slot i = some m) (hj : s.slot j = some n) :
    s.lowerClass i j = true ↔ m.ring.val < n.ring.val := by
  simp [State.lowerClass, hi, hj]

theorem State.lowerClass_asymm {i j : Fin 2} (h : s.lowerClass i j = true) : s.lowerClass j i = false := by
  cases hi : s.slot i with
  | none => simp [State.lowerClass, hi] at h
  | some m =>
    cases hj : s.slot j with
    | none => simp [State.lowerClass, hj]
    | some n =>
      rw [State.lowerClass_iff hi hj] at h
      rw [← Bool.not_eq_true, State.lowerClass_iff hj hi]
      omega

theorem State.lowerClass_irrefl (s : State) (i : Fin 2) : s.lowerClass i i = false := by
  cases h : s.lowerClass i i with
  | false => rfl
  | true => rw [State.lowerClass_asymm h] at h; cases h

/-- The slot chosen satisfies the condition, and no other that does is of a lower class. -/
theorem State.pickSlot_some {p : Fin 2 → Bool} {j : Fin 2} (h : s.pickSlot p = some j) :
    p j = true ∧ ∀ i : Fin 2, p i = true → s.lowerClass i j = false := by
  have hirr := s.lowerClass_irrefl
  unfold State.pickSlot at h
  split at h
  next hb =>
    rw [Bool.and_eq_true] at hb
    split at h
    next hl =>
      cases h
      exact ⟨hb.2, Fin.forall_fin_two.mpr ⟨fun _ => State.lowerClass_asymm hl, fun _ => hirr 1⟩⟩
    next hl =>
      cases h
      exact ⟨hb.1, Fin.forall_fin_two.mpr ⟨fun _ => hirr 0, fun _ => Bool.eq_false_of_not_eq_true hl⟩⟩
  next hb =>
    split at h
    next h0 =>
      cases h
      exact ⟨h0, Fin.forall_fin_two.mpr ⟨fun _ => hirr 0, fun h1 => absurd (by rw [h0, h1]; rfl) hb⟩⟩
    next h0 =>
      split at h
      next h1 =>
        cases h
        exact ⟨h1, Fin.forall_fin_two.mpr ⟨fun h => absurd h h0, fun _ => hirr 1⟩⟩
      next => cases h

theorem State.pickSlot_none {p : Fin 2 → Bool} (h : s.pickSlot p = none) (i : Fin 2) : p i = false := by
  revert i
  unfold State.pickSlot at h
  split at h
  · split at h <;> cases h
  · split at h
    · cases h
    next h0 =>
      split at h
      · cases h
      next h1 =>
        exact Fin.forall_fin_two.mpr ⟨Bool.eq_false_of_not_eq_true h0, Bool.eq_false_of_not_eq_true h1⟩

/-- An attempted message is preferred, then the lowest class (R55). -/
theorem State.pollPick_some {k : Fin 4} {j : Fin 2} (h : s.pollPick k = some j) :
    s.answers k j = true ∧
      ((∃ i : Fin 2, s.answers k i = true ∧ (s.slot i).any (·.attempted) = true) →
        (s.slot j).any (·.attempted) = true) ∧
      ∀ i : Fin 2, s.answers k i = true → (s.slot i).any (·.attempted) = (s.slot j).any (·.attempted) →
        s.lowerClass i j = false := by
  unfold State.pollPick at h
  split at h
  next hp =>
    cases h
    obtain ⟨hj, hlow⟩ := State.pickSlot_some hp
    rw [Bool.and_eq_true] at hj
    exact ⟨hj.1, fun _ => hj.2, fun i hi ha => hlow i (by rw [hi, ha, hj.2]; rfl)⟩
  next hp =>
    obtain ⟨hj, hlow⟩ := State.pickSlot_some h
    refine ⟨hj, fun ⟨i, hi, ha⟩ => ?_, fun i hi _ => hlow i hi⟩
    have hno := State.pickSlot_none hp i
    rw [hi, ha] at hno
    cases hno

theorem State.pollPick_none {k : Fin 4} (h : s.pollPick k = none) (j : Fin 2) : s.answers k j = false := by
  unfold State.pollPick at h
  split at h
  · cases h
  · exact State.pickSlot_none h j

theorem State.dispatch_poll {k : Fin 4} (hs : (s.lsn k).sound = true) (hk : f.kind = .poll) :
    s.dispatch (some k) f = s.pollAnswer k := by
  simp [State.dispatch, hs, unsound, State.checked, hk]

theorem State.pollAnswer_of_wanted {k : Fin 4} (h : (s.lsn k).resyncWanted = true) :
    s.pollAnswer k = s.memberReply k none { kind := .none, detail := detailResync } := if_pos h

theorem State.pollAnswer_some {k : Fin 4} {j : Fin 2} (h : (s.lsn k).resyncWanted = false)
    (hu : s.readyUnsound = false) (hp : s.pollPick k = some j) :
    s.pollAnswer k = s.memberReply k (some j) { kind := .data, seq := (s.lsn k).outSeq } := by
  simp [State.pollAnswer, h, hu, unsound, State.checked, hp]

theorem State.pollAnswer_none {k : Fin 4} (h : (s.lsn k).resyncWanted = false) (hu : s.readyUnsound = false)
    (hp : s.pollPick k = none) : s.pollAnswer k = s.memberReply k none { kind := .none } := by
  simp [State.pollAnswer, h, hu, unsound, State.checked, hp]

/-- The answer to a POLL (R55). -/
theorem State.dispatch_poll_facts (k : Fin 4) (hk : f.kind = .poll) (hi : s.link.state = .idle)
    (hs : (s.lsn k).sound = true) :
    let t := s.dispatch (some k) f
    ((s.lsn k).resyncWanted = true → t.link = s.link.replying (s.lsn k).address k none
      { kind := .none, detail := detailResync }) ∧
    ((s.lsn k).resyncWanted = false → s.readyUnsound = false →
      (∀ j : Fin 2, s.pollPick k = some j → t.link = s.link.replying (s.lsn k).address k (some j)
        { kind := .data, seq := (s.lsn k).outSeq }) ∧
      (s.pollPick k = none → t.link = s.link.replying (s.lsn k).address k none { kind := .none })) := by
  rw [State.dispatch_poll hs hk]
  refine ⟨fun hw => ?_, fun hw hu => ⟨fun j hp => ?_, fun hp => ?_⟩⟩
  · rw [State.pollAnswer_of_wanted hw, State.memberReply_eq k _ _ hi]
    rfl
  · rw [State.pollAnswer_some hw hu hp, State.memberReply_eq k _ _ hi]
    rfl
  · rw [State.pollAnswer_none hw hu hp, State.memberReply_eq k _ _ hi]
    rfl

/-- A member's inbound decision, case by case (R39). -/
theorem State.memberData_decided (s : State) (k : Fin 4) (f : Frame) (h : s.link.state = .idle) :
    let t := s.memberData k f
    (s.rxp.en = false → t.link.x.out = { kind := .nak, detail := detailRefused } ∧ t.rxp = s.rxp ∧
      t.listen = s.listen ∧ t.counters = s.counters) ∧
    (s.rxp.en = true → (s.lsn k).inSeq = some f.seq → t.link.x.out = { kind := .ack, seq := f.seq } ∧
      t.rxp = s.rxp ∧ t.listen = s.listen ∧ t.counters.dup = satInc s.counters.dup) ∧
    (s.rxp.en = true → (s.lsn k).inSeq ≠ some f.seq → 2 ≤ s.rxp.buffers.length →
      t.link.x.out = { kind := .nak, detail := detailFull } ∧ t.rxp = s.rxp ∧ t.listen = s.listen ∧
      t.counters = s.counters) ∧
    (s.rxp.en = true → (s.lsn k).inSeq ≠ some f.seq → s.rxp.buffers.length < 2 →
      t.link.x.out = { kind := .ack, seq := f.seq } ∧ (t.lsn k).inSeq = some f.seq ∧ t.counters = s.counters ∧
      t.rxp.buffers = s.rxp.buffers ++ [f.forPersona k]) := by
  intro t
  have hlink : t.link = _ := State.memberData_link k f h
  have hframe (i : Inbound) (hi : s.inbound true (s.lsn k).inSeq f.seq = i) (hne : i ≠ .accepted) :
      t.rxp = _ ∧ t.listen = _ ∧ t.counters = _ := State.memberData_frame h hi hne
  have haccepted (hi : s.inbound true (s.lsn k).inSeq f.seq = .accepted) :
      (t.lsn k).inSeq = _ ∧ t.counters = _ ∧ t.rxp.buffers = _ := State.memberData_frame_of_accepted h hi
  clear_value t
  refine ⟨fun he => ?_, fun he hq => ?_, fun he hq hl => ?_, fun he hq hl => ?_⟩
  · have hi := State.inbound_eq_refused (accept := true) (q := (s.lsn k).inSeq) (b := f.seq) (.inl he)
    rw [hlink, hi]
    exact ⟨rfl, hframe _ hi (fun e => nomatch e)⟩
  · have hi := State.inbound_eq_duplicate (b := f.seq) he rfl hq
    obtain ⟨hrxp, hlisten, hcounters⟩ := hframe _ hi (fun e => nomatch e)
    rw [hlink, hi]
    exact ⟨rfl, hrxp, hlisten, congrArg Counters.dup hcounters⟩
  · have hi := State.inbound_eq_full he rfl hq hl
    rw [hlink, hi]
    exact ⟨rfl, hframe _ hi (fun e => nomatch e)⟩
  · have hi := State.inbound_eq_accepted he rfl hq hl
    rw [hlink, hi]
    exact ⟨rfl, haccepted hi⟩

/-- The anchor's inbound decision on polled DATA, case by case (R49). -/
theorem State.pollReply_decided (s : State) (f : Frame) (hk : f.kind = .data) (h0 : s.link.x.station ≠ 0)
    (h1 : s.link.x.station ≠ 127) :
    let a := s.link.x.station
    let t := s.pollReply f
    let heard : Station := { s.station a with missCount := 0, presence := .active }
    (s.rxp.en = false ∨ (s.station a).accept = false →
      t.link.x.out = { kind := .nak, detail := detailRefused } ∧ t.rxp = s.rxp ∧ t.station a = heard ∧
      t.counters = s.counters) ∧
    (s.rxp.en = true → (s.station a).accept = true → (s.station a).inSeq = some f.seq →
      t.link.x.out = { kind := .ack, seq := f.seq } ∧ t.rxp = s.rxp ∧ t.station a = heard ∧
      t.counters.dup = satInc s.counters.dup) ∧
    (s.rxp.en = true → (s.station a).accept = true → (s.station a).inSeq ≠ some f.seq →
      2 ≤ s.rxp.buffers.length → t.link.x.out = { kind := .nak, detail := detailFull } ∧ t.rxp = s.rxp ∧
      t.station a = heard ∧ t.counters = s.counters) ∧
    (s.rxp.en = true → (s.station a).accept = true → (s.station a).inSeq ≠ some f.seq →
      s.rxp.buffers.length < 2 → t.link.x.out = { kind := .ack, seq := f.seq } ∧
      t.station a = { heard with inSeq := some f.seq } ∧
      t.rxp.buffers = s.rxp.buffers ++ [f.fromStation a]) := by
  intro a t heard
  have hframe (i : Inbound) (hi : s.inbound (s.station a).accept (s.station a).inSeq f.seq = i)
      (hne : i ≠ .accepted) : t.link = _ ∧ t.rxp = _ ∧ t.counters = _ ∧ t.station a = heard :=
    State.pollReply_frame hk hi hne h0 h1
  have haccepted (hi : s.inbound (s.station a).accept (s.station a).inSeq f.seq = .accepted) :
      t.link = _ ∧ t.rxp.buffers = _ ∧ t.station a = _ := State.pollReply_frame_of_accepted hk hi h0 h1
  clear_value t
  refine ⟨fun he => ?_, fun he ha hq => ?_, fun he ha hq hl => ?_, fun he ha hq hl => ?_⟩
  · obtain ⟨hlink, hrxp, hcounters, hstation⟩ := hframe _ (State.inbound_eq_refused he) (fun e => nomatch e)
    exact ⟨by rw [hlink]; rfl, hrxp, hstation, hcounters⟩
  · obtain ⟨hlink, hrxp, hcounters, hstation⟩ :=
      hframe _ (State.inbound_eq_duplicate he ha hq) (fun e => nomatch e)
    exact ⟨by rw [hlink]; rfl, hrxp, hstation, congrArg Counters.dup hcounters⟩
  · obtain ⟨hlink, hrxp, hcounters, hstation⟩ := hframe _ (State.inbound_eq_full he ha hq hl) (fun e => nomatch e)
    exact ⟨by rw [hlink]; rfl, hrxp, hstation, hcounters⟩
  · obtain ⟨hlink, hrxp, hstation⟩ := haccepted (State.inbound_eq_accepted he ha hq hl)
    exact ⟨by rw [hlink]; rfl, hstation, hrxp⟩

theorem State.pollReply_link (s : State) (f : Frame) (hk : f.kind = .data) (h0 : s.link.x.station ≠ 0)
    (h1 : s.link.x.station ≠ 127) : ∃ o, (s.pollReply f).link = s.link.tailing o := by
  by_cases hi : s.inbound (s.station s.link.x.station).accept (s.station s.link.x.station).inSeq f.seq = .accepted
  · exact ⟨_, (State.pollReply_frame_of_accepted hk hi h0 h1).1⟩
  · exact ⟨_, (State.pollReply_frame hk rfl hi h0 h1).1⟩

/-- Settles O24: the decision of R39 at a member and at the anchor's poll, and the answer to a POLL. -/
theorem inboundDecided : Obligations.InboundDecided := by
  refine ⟨fun s k f h => ?_, fun s f ha hrun hsrc => ?_, fun s k f hk hi hs => ?_, fun s f hr hd hk => ?_⟩
  · have hlink := State.memberData_link k f h
    intro t
    have hl : t.link = _ := hlink
    rw [hl]
    exact ⟨rfl, rfl, rfl, hl ▸ s.memberData_decided k f h⟩
  · obtain ⟨-, -, -, hkind, h0, h1⟩ := id ha
    refine ⟨fun hk => ?_, fun hk => ?_⟩
    · rw [State.validFrame_poll ha hrun hsrc (.inr hk)]
      obtain ⟨hlink, hslots, hcounters, hstation⟩ := State.pollReply_none_facts hk hrun.2.2 h0 h1
      exact ⟨by rw [hlink]; rfl, hslots, hcounters, hstation⟩
    · rw [State.validFrame_poll ha hrun hsrc (.inl hk)]
      obtain ⟨o, hlink⟩ := s.pollReply_link f hk h0 h1
      exact ⟨by rw [hlink]; rfl, by rw [hlink]; exact hkind, by rw [hlink]; rfl, by rw [hlink]; rfl,
        s.pollReply_decided f hk h0 h1⟩
  · obtain ⟨hwanted, hnot⟩ := State.dispatch_poll_facts k hk hi hs
    refine ⟨fun hw => ?_, fun hw hu => ⟨fun j hp => ?_, fun ⟨i, hi⟩ => ?_, fun hno => ?_⟩⟩
    · rw [hwanted hw]
      exact ⟨rfl, rfl, rfl⟩
    · obtain ⟨hj, hattempted, hlow⟩ := State.pollPick_some hp
      rw [(hnot hw hu).1 j hp]
      refine ⟨hj, rfl, rfl, rfl, hattempted, fun i hi ha m n hm hn => ?_⟩
      have hl := hlow i hi ha
      rw [← Bool.not_eq_true, State.lowerClass_iff hn hm] at hl
      omega
    · cases hp : s.pollPick k with
      | some j => exact ⟨j, rfl⟩
      | none =>
        rw [State.pollPick_none hp i] at hi
        cases hi
    · have hp : s.pollPick k = none := by
        cases hp : s.pollPick k with
        | none => rfl
        | some j =>
          have hj := (State.pollPick_some hp).1
          rw [hno j] at hj
          cases hj
      rw [(hnot hw hu).2 hp]
      exact ⟨rfl, rfl, rfl⟩
  · rw [State.validFrame_broadcastData hr hd hk]
    exact ⟨fun h => if_neg h, fun h => if_pos h⟩

end Sys2Proof.Machine
end

section
/-! PROOFS. What the end of an exchange leaves alone, and the ends of transmissions (R4, R9, R11, R15, R51, R52, R61). -/

namespace Sys2Proof.Machine

set_option Elab.async false

variable {s t u : State} {k : Fin 2}

/-! ## The finishing of a message -/

/-- `t` comes from `s` by work on staged messages, their rings, the cache, the holding list and the Fault Unit, which may end
in a Halt: that releases the line. -/
structure State.Finishes (s t : State) : Prop where
  link : t.link = s.link := by rfl
  line : t.line = s.line := by rfl
  counters : t.counters = s.counters := by rfl
  records : t.stn = s.stn := by rfl
  cmd : t.cmd = s.cmd := by rfl
  poll : t.poll = s.poll := by rfl
  off : s.tx.phase = .off → t.tx.phase = .off := by exact id
  silent : s.rx.active = false → t.rx.active = false := by exact id
  hunt : s.frx.state = .hunt → t.frx.state = .hunt := by exact id
  causes : ∃ i, t.glb.intstat = s.glb.intstat ||| i := by exact ⟨0, BitVec.or_zero.symm⟩
  halted : s.halted = true → t.halted = true := by exact id
  tx : t.halted = false → t.tx = s.tx := by exact fun _ => rfl
  power : t.halted = false → t.glb.power = s.glb.power := by exact fun _ => rfl

theorem State.halted_of_monotone (h : s.halted = true → t.halted = true) (ht : t.halted = false) : s.halted = false :=
  Bool.eq_false_iff.mpr fun hs => Bool.false_ne_true (ht.symm.trans (h hs))

/-- Causes that come one after another. -/
theorem causes_trans {a b c : BitVec 10} (h : ∃ i, b = a ||| i) (h' : ∃ i, c = b ||| i) : ∃ i, c = a ||| i := by
  obtain ⟨i, rfl⟩ := h
  obtain ⟨j, rfl⟩ := h'
  exact ⟨i ||| j, BitVec.or_assoc ..⟩

theorem State.Finishes.refl (s : State) : s.Finishes s := {}

theorem State.Finishes.trans (h : s.Finishes t) (h' : t.Finishes u) : s.Finishes u where
  link := h'.link.trans h.link
  line := h'.line.trans h.line
  counters := h'.counters.trans h.counters
  records := h'.records.trans h.records
  cmd := h'.cmd.trans h.cmd
  poll := h'.poll.trans h.poll
  off := h'.off ∘ h.off
  silent := h'.silent ∘ h.silent
  hunt := h'.hunt ∘ h.hunt
  causes := causes_trans h.causes h'.causes
  halted := h'.halted ∘ h.halted
  tx hu := (h'.tx hu).trans (h.tx (State.halted_of_monotone h'.halted hu))
  power hu := (h'.power hu).trans (h.power (State.halted_of_monotone h'.halted hu))

theorem State.Finishes.ite {c : Prop} [Decidable c] {a b : State} (ha : c → s.Finishes a) (hb : ¬c → s.Finishes b) :
    s.Finishes (if c then a else b) := by
  split
  · exact ha ‹_›
  · exact hb ‹_›

theorem State.finishes_enterHalt (s : State) (c : HaltCause) : s.Finishes (s.enterHalt c) :=
  .ite (fun _ => .refl s) fun _ =>
    { off := fun _ => rfl
      silent := fun _ => rfl
      hunt := fun _ => rfl
      causes := ⟨_, rfl⟩
      halted := fun _ => rfl
      tx := fun h => absurd (show true = false from h) (fun e => nomatch e)
      power := fun h => absurd (show true = false from h) (fun e => nomatch e) }

theorem State.Finishes.checked {f : State → State} (bad : Option HaltCause) (hf : s.Finishes (f s)) :
    s.Finishes (s.checked bad f) := by
  cases bad with
  | none => exact hf
  | some c => exact s.finishes_enterHalt c

theorem State.Finishes.unlessHalted {f : State → State} (h : s.Finishes t) (hf : t.Finishes (f t)) :
    s.Finishes (t.unlessHalted f) := .ite (fun _ => h) fun _ => h.trans hf

theorem State.finishes_post (s : State) (r : FaultRecord) : s.Finishes (s.post r) := by
  obtain ⟨w, i, h⟩ := s.post_eq r
  rw [h]
  exact { causes := ⟨i, rfl⟩ }

theorem State.finishes_cacheParity (s : State) (p : FaultPhase) (i : Byte) (c : Channel) :
    s.Finishes (s.cacheParity p i c) :=
  .ite (fun _ => s.finishes_enterHalt _) fun _ => .ite (fun _ => s.finishes_enterHalt _) fun _ =>
    State.Finishes.trans (t := s.setMap (s.map.remove c)) {} (State.finishes_post _ _)

theorem State.finishes_cacheErr (s : State) (i : Byte) (c : Channel) : s.Finishes (s.cacheErr i c) := by
  unfold State.cacheErr
  split
  · exact .refl s
  · exact .ite (fun _ => {}) fun _ => s.finishes_cacheParity _ _ _

theorem State.finishes_setSlot (s : State) (k : Fin 2) (m : Option Message) : s.Finishes (s.setSlot k m) := {}

theorem State.finishes_joinMessage (s : State) (k : Fin 2) (m : Message) : s.Finishes (s.joinMessage k m) := {}

theorem State.finishes_giveOutcome (s : State) (k : Fin 2) (c : Code) : s.Finishes (s.giveOutcome k c) := by
  unfold State.giveOutcome
  split
  · exact .refl s
  next m _ =>
    exact .ite (fun _ => .ite (fun _ => s.finishes_setSlot k _) fun _ =>
      (s.finishes_cacheErr _ _).unlessHalted (State.finishes_joinMessage _ k _)) fun _ => s.finishes_joinMessage k _

theorem State.finishes_settleStopping (s : State) (k : Fin 2) : s.Finishes (s.settleStopping k) := by
  unfold State.settleStopping
  split
  · exact .refl s
  · exact .ite (fun _ => s.finishes_giveOutcome k _) fun _ => .refl s

theorem State.finishes_failMessage (s : State) (k : Fin 2) (c : AttemptCause) (silent : Bool) :
    s.Finishes (s.failMessage k c silent) := by
  unfold State.failMessage
  split
  · exact .refl s
  · exact .ite (fun _ => (s.finishes_setSlot k _).trans (State.finishes_giveOutcome _ k _)) fun _ =>
      (s.finishes_setSlot k _).trans (State.finishes_settleStopping _ k)

theorem State.finishes_endMessage (s : State) (k : Fin 2) (c : Code) : s.Finishes (s.endMessage k c) := by
  unfold State.endMessage
  split
  · exact .refl s
  · exact (s.finishes_setSlot k _).trans (State.finishes_giveOutcome _ k _)

theorem State.finishes_abandonSlot (s : State) (k : Fin 2) : s.Finishes (s.abandonSlot k) := by
  cases hm : s.slot k with
  | none => simp only [State.abandonSlot, hm]; exact .refl s
  | some m =>
    obtain ⟨b, w, h⟩ := State.abandonSlot_of_message hm
    rw [h]
    exact {}

theorem State.finishes_stopIfFree (s : State) (n : Fin 4) : s.Finishes (s.stopIfFree n) :=
  .ite (fun _ => {}) fun _ => .refl s

theorem State.finishes_settleCancelled (s : State) (k : Fin 2) : s.Finishes (s.settleCancelled k) := by
  unfold State.settleCancelled
  split
  · exact .refl s
  · exact .ite (fun _ => .ite (fun _ => .checked _ (s.finishes_giveOutcome k _)) fun _ =>
      (s.finishes_abandonSlot k).trans (State.finishes_stopIfFree _ _)) fun _ => .refl s

/-! ## The end of an exchange -/

/-- `t` comes from `s` by the end of an exchange: besides the work on messages, station marks in anchor role, the end of a line
command, and the link's return to Idle or Disabled. -/
structure State.Closes (s t : State) : Prop where
  line : t.line = s.line := by rfl
  counters : t.counters = s.counters := by rfl
  records : s.line.role = .member → t.stn = s.stn := by exact fun _ => rfl
  poll : t.poll = s.poll := by rfl
  pollen : t.link.pollen = s.link.pollen := by rfl
  pause : s.link.pause = none → t.link.pause = none := by exact id
  off : s.tx.phase = .off → t.tx.phase = .off := by exact id
  hunt : s.frx.state = .hunt → t.frx.state = .hunt := by exact id
  causes : ∃ i, t.glb.intstat = s.glb.intstat ||| i := by exact ⟨0, BitVec.or_zero.symm⟩
  halted : s.halted = true → t.halted = true := by exact id
  tx : t.halted = false → t.tx = s.tx := by exact fun _ => rfl
  power : t.halted = false → t.glb.power = s.glb.power := by exact fun _ => rfl

theorem State.Closes.refl (s : State) : s.Closes s := {}

theorem State.Closes.trans (h : s.Closes t) (h' : t.Closes u) : s.Closes u where
  line := h'.line.trans h.line
  counters := h'.counters.trans h.counters
  records hr := (h'.records (by rw [h.line]; exact hr)).trans (h.records hr)
  poll := h'.poll.trans h.poll
  pollen := h'.pollen.trans h.pollen
  pause := h'.pause ∘ h.pause
  off := h'.off ∘ h.off
  hunt := h'.hunt ∘ h.hunt
  causes := causes_trans h.causes h'.causes
  halted := h'.halted ∘ h.halted
  tx hu := (h'.tx hu).trans (h.tx (State.halted_of_monotone h'.halted hu))
  power hu := (h'.power hu).trans (h.power (State.halted_of_monotone h'.halted hu))

theorem State.Finishes.closes (h : s.Finishes t) : s.Closes t where
  line := h.line
  counters := h.counters
  records _ := h.records
  poll := h.poll
  pollen := congrArg Link.pollen h.link
  pause hp := (congrArg Link.pause h.link).trans hp
  off := h.off
  hunt := h.hunt
  causes := h.causes
  halted := h.halted
  tx := h.tx
  power := h.power

theorem State.Marks.closes (h : s.Marks t) (hr : s.line.role = .anchor) : s.Closes t := by
  obtain ⟨v, i, rfl⟩ := h
  exact { records := fun hm => by rw [hr] at hm; cases hm
          causes := ⟨i, rfl⟩ }

theorem State.Closes.ite {c : Prop} [Decidable c] {a b : State} (ha : c → s.Closes a) (hb : ¬c → s.Closes b) :
    s.Closes (if c then a else b) := by
  split
  · exact ha ‹_›
  · exact hb ‹_›

theorem State.Closes.checked {f : State → State} (bad : Option HaltCause) (hf : s.Closes (f s)) :
    s.Closes (s.checked bad f) := by
  cases bad with
  | none => exact hf
  | some c => exact (s.finishes_enterHalt c).closes

theorem State.Closes.unlessHalted {f : State → State} (h : s.Closes t) (hf : t.Closes (f t)) :
    s.Closes (t.unlessHalted f) := .ite (fun _ => h) fun _ => h.trans hf

theorem State.closes_syncRx (s : State) : s.Closes s.syncRx :=
  .ite (fun _ => .refl s) fun _ => .ite (fun _ => {}) fun _ => { hunt := fun _ => rfl }

theorem State.closes_enterDisabled (s : State) : s.Closes s.enterDisabled :=
  .ite (fun _ => { pause := fun _ => rfl, hunt := fun _ => rfl }) fun _ => { pause := fun _ => rfl }

theorem State.closes_restartAnchor (s : State) : s.Closes s.restartAnchor := .ite (fun _ => {}) fun _ => .refl s

theorem State.closes_enableLink (s : State) : s.Closes s.enableLink :=
  State.Closes.trans (t := s.setLink { s.link with
    state := .idle, outbound := if s.line.role = .anchor then 0 else s.link.outbound }) {}
    ((State.closes_restartAnchor _).trans (State.closes_syncRx _))

theorem State.closes_toIdle (s : State) : s.Closes s.toIdle :=
  .ite (fun _ => {}) fun _ => .ite (fun _ => s.closes_enterDisabled.trans (State.closes_enableLink _)) fun _ =>
    s.closes_enterDisabled

theorem State.closes_failStation (s : State) (a : LineAddr) (c : AttemptCause) (final : Bool) :
    s.Closes (s.failStation a c final) := by
  cases hr : s.line.role with
  | anchor => exact (s.marks_failStation a c final).closes hr
  | member => rw [State.failStation_of_member _ _ _ hr]; exact .refl s

theorem State.closes_failMessage (s : State) (k : Fin 2) (c : AttemptCause) (silent : Bool) :
    s.Closes (s.failMessage k c silent) := (s.finishes_failMessage k c silent).closes

/-- The work of a failed exchange before the link returns to Idle. -/
theorem State.failExchange_cases (s : State) (c : AttemptCause) :
    (∃ e, s.failExchange c = s.enterHalt e) ∨ ∃ v, s.Closes v ∧ s.failExchange c = v.unlessHalted State.toIdle := by
  unfold State.failExchange
  cases s.exchangeUnsound with
  | some e => exact .inl ⟨e, rfl⟩
  | none =>
    refine .inr ⟨_, ?_, rfl⟩
    generalize hu : s.setLink { s.link with x := { s.link.x with cause := c } } = u
    have hsu : s.Closes u := by rw [← hu]; exact {}
    refine hsu.trans ?_
    split
    · exact (u.closes_failStation _ _ _).trans (State.closes_failMessage _ _ _ _)
    · exact (u.closes_failStation _ _ _).trans (State.closes_failMessage _ _ _ _)
    · exact u.closes_failStation _ _ _
    · exact u.closes_failStation _ _ _
    · exact u.closes_failMessage _ _ _
    · exact State.Closes.trans (t := if u.failsFinally _ false then u.setLsn _ _ else u)
        (.ite (fun _ => {}) fun _ => .refl u) (State.closes_failMessage _ _ _ _)
    · exact .refl u

theorem State.closes_failExchange (s : State) (c : AttemptCause) : s.Closes (s.failExchange c) := by
  rcases s.failExchange_cases c with ⟨e, h⟩ | ⟨v, hv, h⟩
  · rw [h]
    exact (s.finishes_enterHalt e).closes
  · rw [h]
    exact hv.unlessHalted v.closes_toIdle

/-- The end of a line command changes the command queue and the holding list alone. -/
theorem State.endLineCommand_eq (s : State) (op : BitVec 4) : ∃ q c, s.endLineCommand op = (s.setCq q).setCmd c := by
  have hend : ∃ q c, s.endCommand .ok = (s.setCq q).setCmd c := by
    unfold State.endCommand
    split
    · exact ⟨s.cq, s.cmd, rfl⟩
    · split
      · exact ⟨_, _, rfl⟩
      · exact ⟨s.cq, _, rfl⟩
  unfold State.endLineCommand
  split
  · split
    · exact hend
    · exact ⟨s.cq, s.cmd, rfl⟩
  · exact ⟨s.cq, s.cmd, rfl⟩

theorem State.closes_syncRecords (s : State) : s.Closes s.syncRecords := by
  rcases s.syncRecords_cases with ⟨hr, h⟩ | ⟨-, h⟩
  · rw [h]
    exact { records := fun hm => by rw [hr] at hm; cases hm }
  · rw [h]
    exact .refl s

theorem State.closes_endLineCommand (s : State) (op : BitVec 4) : s.Closes (s.endLineCommand op) := by
  obtain ⟨q, c, h⟩ := s.endLineCommand_eq op
  rw [h]
  exact {}

theorem State.closes_endSyncAll (s : State) : s.Closes s.endSyncAll :=
  .checked _ ((s.closes_syncRecords.trans (State.closes_endLineCommand _ _)).trans (State.closes_toIdle _))

theorem State.closes_linkCutShort (s : State) (c : AttemptCause) : s.Closes (s.linkCutShort c) :=
  .ite (fun _ => s.closes_endSyncAll) fun _ => .ite (fun _ => s.closes_failExchange c) fun _ => s.closes_toIdle

theorem State.closes_linkFrameSent (s : State) : s.Closes s.linkFrameSent :=
  .ite (fun _ => s.closes_endSyncAll) fun _ =>
    .ite (fun _ => .ite (fun _ => s.closes_failExchange _) fun _ => {}) fun _ => s.closes_toIdle

theorem State.closes_afterFrame {f : State → State} (hf : s.Closes (f s)) : s.Closes (s.afterFrame f) :=
  (State.Closes.ite (fun _ => hf) fun _ => .refl s).unlessHalted (State.closes_syncRx _)

theorem State.lde_of_off (h : s.tx.phase = .off) : s.lde = false := by simp [State.lde, h]

/-! ## Where the link ends -/

/-- The controller has halted, or its link is between exchanges. -/
def State.Settled (s : State) : Prop := s.halted = true ∨ s.link.state = .idle ∨ s.link.state = .disabled

theorem State.settled_toIdle (s : State) : s.toIdle.Settled := .inr s.toIdle_link_state

theorem State.settled_unlessHalted (s : State) : (s.unlessHalted State.toIdle).Settled := by
  cases hh : s.halted with
  | true => rw [State.unlessHalted_of_halted _ hh]; exact .inl hh
  | false => rw [State.unlessHalted_of_not _ hh]; exact s.settled_toIdle

theorem State.settled_failExchange (s : State) (c : AttemptCause) : (s.failExchange c).Settled := by
  rcases s.failExchange_cases c with ⟨e, h⟩ | ⟨v, -, h⟩
  · rw [h]
    exact .inl (s.halted_enterHalt e)
  · rw [h]
    exact v.settled_unlessHalted

theorem State.settled_endSyncAll (s : State) : s.endSyncAll.Settled := by
  unfold State.endSyncAll
  cases unsound (s.line.role == .anchor && s.stationsUnsound) .stationParity with
  | none => exact State.settled_toIdle _
  | some c => exact .inl (s.halted_enterHalt c)

theorem State.settled_linkCutShort (s : State) (c : AttemptCause) : (s.linkCutShort c).Settled := by
  unfold State.linkCutShort
  split
  · exact s.settled_endSyncAll
  split
  · exact s.settled_failExchange c
  · exact s.settled_toIdle

theorem State.halted_syncRx (s : State) : s.syncRx.halted = s.halted := by
  obtain ⟨r, f, h, -⟩ := s.syncRx_eq
  rw [h]
  rfl

/-- The receiver's activation after the frame leaves the link where it is. -/
theorem State.settled_afterFrame {f : State → State} (hs : s.link.state = .sending) (hf : (f s).Settled) :
    (s.afterFrame f).Settled := by
  rw [State.afterFrame, if_pos hs]
  cases hh : (f s).halted with
  | true => rw [State.unlessHalted_of_halted _ hh]; exact hf
  | false =>
    rw [State.unlessHalted_of_not _ hh, State.Settled, State.halted_syncRx, State.syncRx_link]
    exact hf

/-! ## The end of a transmission -/

theorem State.frameStops_of_frame (hp : s.tx.phase = .frame) (ha : s.tx.afterBreak = false) :
    s.frameStops = ((s.bump .contention).txEnd).afterFrame fun s => s.linkCutShort .contention := if_pos ⟨hp, ha⟩

theorem State.frameEnds_of_contention (hp : s.tx.phase = .frame) (ha : s.tx.afterBreak = false)
    (hc : s.tx.contention = true) : s.frameEnds = s.frameStops := by
  rw [State.frameEnds, if_pos ⟨hp, ha⟩, if_pos hc]

theorem State.frameEnds_of_sound (hp : s.tx.phase = .frame) (ha : s.tx.afterBreak = false)
    (hc : s.tx.contention = false) : s.frameEnds = s.txEnd.afterFrame State.linkFrameSent := by
  rw [State.frameEnds, if_pos ⟨hp, ha⟩, if_neg (ne_true_of_eq_false hc)]

theorem exec_frameSent (h : s.due.awake = true) : exec .frameSent s = .next s.due.frameEnds.settle :=
  congrArg _ (State.event_of_awake _ h)

theorem exec_frameStopped (h : s.due.awake = true) : exec .frameStopped s = .next s.due.frameStops.settle :=
  congrArg _ (State.event_of_awake _ h)

theorem exec_breakSent (h : s.due.awake = true) : exec .breakSent s = .next s.due.breakEnds.settle :=
  congrArg _ (State.event_of_awake _ h)

theorem exec_transmissionEndAfterBreak (h : s.due.awake = true) :
    exec .transmissionEndAfterBreak s = .next s.due.endsAfterBreak.settle := congrArg _ (State.event_of_awake _ h)

theorem State.closes_frameStops (hp : s.tx.phase = .frame) (ha : s.tx.afterBreak = false) :
    (s.bump .contention).txEnd.Closes s.frameStops := by
  rw [State.frameStops_of_frame hp ha]
  exact State.closes_afterFrame (State.closes_linkCutShort _ _)

/-- Settles O30: a stopped frame counts CONTENTION once and releases the line. -/
theorem frameStoppedCounts : Obligations.FrameStoppedCounts := by
  intro s hw hp ha
  have hcloses := State.closes_frameStops hp ha
  refine ⟨⟨_, exec_frameStopped hw, by rw [hcloses.counters]; rfl, State.lde_of_off (hcloses.off rfl), hcloses.records,
    fun hs => ?_⟩, fun hc => ?_⟩
  · rw [State.frameStops_of_frame hp ha]
    exact State.settled_afterFrame (by exact hs) (State.settled_linkCutShort _ _)
  · rw [exec_frameSent hw, exec_frameStopped hw, State.frameEnds_of_contention hp ha hc]

/-- The receiver that R5 wants active and that is stays as it is. -/
theorem State.syncRx_of_working (hw : s.awake = true) (he : s.link.en = true) (ha : s.rx.active = true) :
    s.syncRx = s := by
  unfold State.syncRx
  rw [if_pos]
  rw [State.rxWanted, hw, he, ha]
  rfl

theorem State.rxWanted_of_off (he : s.link.en = false) (ht : s.tx.phase = .off) : s.rxWanted = false := by
  simp [State.rxWanted, he, ht]

theorem State.afterFrame_of_sending {f : State → State} (hs : s.link.state = .sending) (hh : (f s).halted = false) :
    s.afterFrame f = (f s).syncRx := by
  rw [State.afterFrame, if_pos hs, State.unlessHalted_of_not _ hh]

theorem State.awake_congr (h : t.glb = s.glb) : t.awake = s.awake := by
  rw [State.awake, State.awake, State.held, State.held, h]

/-- Where the enable stands and the receiver works, what ends the exchange is the end of the frame. -/
theorem State.frameEnds_working {v : State} (hw : s.awake = true) (hrx : s.rx.active = true) (hp : s.tx.phase = .frame)
    (ha : s.tx.afterBreak = false) (hc : s.tx.contention = false) (hs : s.link.state = .sending)
    (hv : s.txEnd.linkFrameSent = v) (hglb : v.glb = s.glb) (hen : v.link.en = true) (hact : v.rx = s.txEnd.rx) :
    s.frameEnds = v := by
  have hawake : v.awake = true := (State.awake_congr hglb).trans hw
  rw [State.frameEnds_of_sound hp ha hc, State.afterFrame_of_sending (by exact hs)
    (by rw [hv]; exact State.halted_of_awake hawake), hv]
  exact State.syncRx_of_working hawake hen (by rw [hact]; exact hrx)

theorem State.linkFrameSent_syncAll (h : s.link.x.kind = .syncAll) : s.linkFrameSent = s.endSyncAll := if_pos h

theorem State.linkFrameSent_attempt (h : s.link.x.isAttempt = true) (hs : s.LinkStays) :
    s.linkFrameSent = s.setLink { s.link with
      state := .awaiting,
      x := { s.link.x with waited := 0, passed := false, met := false, inTime := false } } := by
  have hne : s.link.x.kind ≠ .syncAll := fun hk => by simp [Exchange.isAttempt, hk] at h
  have hoff : s.link.off = false := by simp [Link.off, hs.1, hs.2]
  rw [State.linkFrameSent, if_neg hne, if_pos h, if_neg (ne_true_of_eq_false hoff)]

theorem State.linkFrameSent_other (h : s.link.x.isAttempt = false) (hne : s.link.x.kind ≠ .syncAll) :
    s.linkFrameSent = s.toIdle := by
  rw [State.linkFrameSent, if_neg hne, if_neg (ne_true_of_eq_false h)]

/-- The end of a sync-all that finds the records sound (R51). -/
theorem State.endSyncAll_of_sound (h : (s.line.role == .anchor && s.stationsUnsound) = false) :
    s.endSyncAll = (s.syncRecords.endLineCommand opSyncAll).toIdle := by
  rw [State.endSyncAll, h]
  rfl

theorem State.syncRecords_frame (s : State) :
    s.syncRecords.link = s.link ∧ s.syncRecords.glb = s.glb ∧ s.syncRecords.rx = s.rx ∧ s.syncRecords.tx = s.tx := by
  rcases s.syncRecords_cases with ⟨-, h⟩ | ⟨-, h⟩ <;> (rw [h]; exact ⟨rfl, rfl, rfl, rfl⟩)

/-- After the end of a line command the link returns to Idle where its enable stands. -/
theorem State.toIdle_endLineCommand (op : BitVec 4) (h : s.LinkStays) :
    ∃ q c, (s.endLineCommand op).toIdle = ((s.setCq q).setCmd c).setLink s.link.idled := by
  obtain ⟨q, c, he⟩ := s.endLineCommand_eq op
  exact ⟨q, c, by rw [he]; exact State.toIdle_of_stays h⟩

theorem State.station_syncRecords_of_anchor {a : LineAddr} (hr : s.line.role = .anchor) (h0 : a ≠ 0) (h1 : a ≠ 127) :
    s.syncRecords.station a = (s.station a).syncedAll := by
  rw [State.syncRecords, if_pos hr, State.station_syncAllStations, if_neg (by rintro (h | h); exacts [h0 h, h1 h])]

/-- In member role the end of a frame changes no record, whatever the frame was (R62). -/
theorem State.frameEnds_of_member (hp : s.tx.phase = .frame) (ha : s.tx.afterBreak = false)
    (hr : s.line.role = .member) : s.frameEnds.stn = s.stn := by
  cases hc : s.tx.contention with
  | true =>
    rw [State.frameEnds_of_contention hp ha hc]
    exact (State.closes_frameStops hp ha).records hr
  | false =>
    rw [State.frameEnds_of_sound hp ha hc]
    exact (State.closes_afterFrame (State.closes_linkFrameSent _)).records hr

/-- A member's sync-all ends like any other, without a Halt (R61, log 39). -/
theorem State.afterFrame_syncAll_of_member {f : State → State} (hs : s.link.state = .sending) (hh : s.halted = false)
    (hr : s.line.role = .member) (hf : f s = s.endSyncAll) :
    (s.afterFrame f).halted = false ∧
      ((s.afterFrame f).link.state = .idle ∨ (s.afterFrame f).link.state = .disabled) := by
  have hsync : s.syncRecords = s := if_neg (by rw [hr]; exact fun e => nomatch e)
  have hend := State.endSyncAll_of_sound (s := s) (by rw [hr]; rfl)
  rw [hsync] at hend
  obtain ⟨q, c, he⟩ := s.endLineCommand_eq opSyncAll
  have hrun : (f s).halted = false := by
    rw [hf, hend, State.halted_toIdle, he]
    exact hh
  rw [State.afterFrame_of_sending hs hrun, State.halted_syncRx, State.syncRx_link]
  refine ⟨hrun, ?_⟩
  rw [hf, hend]
  exact State.toIdle_link_state _

theorem State.frameEnds_syncAll_of_member (hp : s.tx.phase = .frame) (ha : s.tx.afterBreak = false)
    (hr : s.line.role = .member) (hh : s.halted = false) (hs : s.link.state = .sending)
    (hk : s.link.x.kind = .syncAll) :
    s.frameEnds.halted = false ∧ (s.frameEnds.link.state = .idle ∨ s.frameEnds.link.state = .disabled) := by
  cases hc : s.tx.contention with
  | true =>
    rw [State.frameEnds_of_contention hp ha hc, State.frameStops_of_frame hp ha]
    exact State.afterFrame_syncAll_of_member hs hh hr (if_pos hk)
  | false =>
    rw [State.frameEnds_of_sound hp ha hc]
    exact State.afterFrame_syncAll_of_member hs hh hr (if_pos hk)

/-- The end of the anchor's sync-all (R51). -/
theorem State.frameEnds_syncAll (hw : s.awake = true) (hrx : s.rx.active = true) (hp : s.tx.phase = .frame)
    (ha : s.tx.afterBreak = false) (hc : s.tx.contention = false) (hs : s.link.state = .sending)
    (hstays : s.LinkStays) (hk : s.link.x.kind = .syncAll) (hr : s.line.role = .anchor)
    (hu : s.stationsUnsound = false) :
    ∃ (v : State) (q : Completion) (c : CommandQueue), s.frameEnds = ((v.setCq q).setCmd c).setLink s.link.idled ∧ v.tx.phase = .off ∧
      ∀ a : LineAddr, a ≠ 0 → a ≠ 127 → v.station a = (s.station a).syncedAll := by
  have hend := State.endSyncAll_of_sound (s := s.txEnd)
    (by change (s.line.role == .anchor && s.stationsUnsound) = false; rw [hu, Bool.and_false])
  have hstation (a : LineAddr) (h0 : a ≠ 0) (h1 : a ≠ 127) :
      s.txEnd.syncRecords.station a = (s.station a).syncedAll :=
    State.station_syncRecords_of_anchor (s := s.txEnd) hr h0 h1
  obtain ⟨hlink, hglb, hrx', htx⟩ := s.txEnd.syncRecords_frame
  generalize s.txEnd.syncRecords = v at hend hstation hlink hglb hrx' htx
  have hlink : v.link = s.link := hlink
  obtain ⟨q, c, he⟩ := State.toIdle_endLineCommand (s := v) opSyncAll (by rw [State.LinkStays, hlink]; exact hstays)
  rw [hlink] at he
  exact ⟨v, q, c, State.frameEnds_working hw hrx hp ha hc hs ((State.linkFrameSent_syncAll (s := s.txEnd) hk).trans (hend.trans he))
    hglb hstays.1 hrx', by rw [htx]; rfl, hstation⟩

theorem State.frameEnds_attempt (hw : s.awake = true) (hrx : s.rx.active = true) (hp : s.tx.phase = .frame)
    (ha : s.tx.afterBreak = false) (hc : s.tx.contention = false) (hs : s.link.state = .sending)
    (hstays : s.LinkStays) (hat : s.link.x.isAttempt = true) :
    s.frameEnds = s.txEnd.setLink { s.link with
      state := .awaiting,
      x := { s.link.x with waited := 0, passed := false, met := false, inTime := false } } :=
  State.frameEnds_working hw hrx hp ha hc hs (State.linkFrameSent_attempt (s := s.txEnd) hat hstays) rfl hstays.1 rfl

theorem State.frameEnds_other (hw : s.awake = true) (hrx : s.rx.active = true) (hp : s.tx.phase = .frame)
    (ha : s.tx.afterBreak = false) (hc : s.tx.contention = false) (hs : s.link.state = .sending)
    (hstays : s.LinkStays) (hat : s.link.x.isAttempt = false) (hne : s.link.x.kind ≠ .syncAll) :
    s.frameEnds = s.txEnd.setLink s.link.idled :=
  State.frameEnds_working hw hrx hp ha hc hs
    ((State.linkFrameSent_other (s := s.txEnd) hat hne).trans (State.toIdle_of_stays (s := s.txEnd) hstays)) rfl
    hstays.1 rfl

/-- Settles O29: what Frame sent makes of the exchange whose frame it was. -/
theorem frameSentEnds : Obligations.FrameSentEnds := by
  refine ⟨fun s hw hp ha hr => ?_, fun s hw hrx hp ha hc hs hstays => ⟨fun hat => ?_, fun hat hne => ?_, fun hk hr hu => ?_⟩⟩
  · exact ⟨_, exec_frameSent hw, State.frameEnds_of_member hp ha hr, fun hs hk =>
      State.frameEnds_syncAll_of_member hp ha hr (State.halted_of_awake hw) hs hk⟩
  · refine ⟨_, exec_frameSent hw, ?_⟩
    rw [State.frameEnds_attempt hw hrx hp ha hc hs hstays hat]
    exact ⟨rfl, rfl, rfl, rfl, rfl, rfl, rfl⟩
  · refine ⟨_, exec_frameSent hw, ?_⟩
    rw [State.frameEnds_other hw hrx hp ha hc hs hstays hat hne]
    exact ⟨rfl, rfl, rfl, rfl, rfl⟩
  · obtain ⟨v, q, c, hv, htx, hstation⟩ := State.frameEnds_syncAll hw hrx hp ha hc hs hstays hk hr hu
    refine ⟨_, exec_frameSent hw, ?_⟩
    rw [hv]
    exact ⟨State.lde_of_off htx, rfl, hstation⟩

/-! ## The end of a sent break, and of a frame that a detected break cut -/

/-- The transmitter is off and the detector waits for high (R9). -/
def State.breakSilenced (s : State) : State := s.txEnd.setRx { s.txEnd.rx with brk := .rearming }

theorem State.breakEnds_of_breaking (hp : s.tx.phase = .brk) (hs : s.link.state = .breaking) :
    s.breakEnds = s.breakSilenced.linkBreakSent.unlessHalted State.syncRx := by
  rw [State.breakEnds, if_pos hp]
  exact congrArg (State.unlessHalted · State.syncRx) (if_pos hs)

/-- The records as the end of a sent break finds or makes them (R52, R62). -/
theorem State.linkBreakSent_of_sound (hu : s.line.brkSync = true → s.line.role = .anchor → s.stationsUnsound = false) :
    s.linkBreakSent = ((if s.line.brkSync then s.syncRecords else s).endLineCommand opLineBreak).toIdle := by
  have hno : (s.line.role == .anchor && s.line.brkSync && s.stationsUnsound) = false := by
    cases hb : s.line.brkSync with
    | false => simp
    | true =>
      cases hr : s.line.role with
      | anchor => simp [hu hb hr]
      | member => rfl
  simp only [State.linkBreakSent, hno, unsound, Bool.false_eq_true, if_false, State.checked_none]

/-- The state in which the line command is still to end: the transmitter off, the detector waiting, the records settled. -/
theorem State.breakRecords_frame (s : State) :
    let v := if s.line.brkSync then s.syncRecords else s
    v.link = s.link ∧ v.glb = s.glb ∧ v.rx = s.rx ∧ v.tx = s.tx ∧ v.counters = s.counters ∧
      ∀ a : LineAddr, a ≠ 0 → a ≠ 127 → v.station a =
        if s.line.brkSync = true ∧ s.line.role = .anchor then (s.station a).syncedAll else s.station a := by
  cases hb : s.line.brkSync with
  | false => exact ⟨rfl, rfl, rfl, rfl, rfl, fun _ _ _ => by simp⟩
  | true =>
    obtain ⟨hlink, hglb, hrx, htx⟩ := s.syncRecords_frame
    have hcounters := s.closes_syncRecords.counters
    refine ⟨hlink, hglb, hrx, htx, hcounters, fun a h0 h1 => ?_⟩
    cases hr : s.line.role with
    | anchor =>
      rw [if_pos rfl, State.station_syncRecords_of_anchor hr h0 h1, if_pos ⟨rfl, rfl⟩]
    | member =>
      have hsync : s.syncRecords = s := if_neg (by rw [hr]; exact fun e => nomatch e)
      rw [if_pos rfl, hsync, if_neg fun h => nomatch h.2]

theorem State.breakEnds_facts (hw : s.awake = true) (hrx : s.rx.active = true) (hstays : s.LinkStays)
    (hp : s.tx.phase = .brk) (hs : s.link.state = .breaking)
    (hu : s.line.brkSync = true → s.line.role = .anchor → s.stationsUnsound = false) :
    ∃ (v : State) (q : Completion) (c : CommandQueue), s.breakEnds = ((v.setCq q).setCmd c).setLink s.link.idled ∧ v.tx.phase = .off ∧
      v.rx = s.breakSilenced.rx ∧ v.counters = s.counters ∧ ∀ a : LineAddr, a ≠ 0 → a ≠ 127 → v.station a =
        if s.line.brkSync = true ∧ s.line.role = .anchor then (s.station a).syncedAll else s.station a := by
  have hsent := State.linkBreakSent_of_sound (s := s.breakSilenced) hu
  obtain ⟨hlink, hglb, hrx', htx, hcounters, hstation⟩ := s.breakSilenced.breakRecords_frame
  generalize (if s.breakSilenced.line.brkSync then s.breakSilenced.syncRecords else s.breakSilenced) = v at *
  have hlink : v.link = s.link := hlink
  obtain ⟨q, c, he⟩ := State.toIdle_endLineCommand (s := v) opLineBreak
    (by rw [State.LinkStays, hlink]; exact hstays)
  rw [hlink] at he
  have hawake : (((v.setCq q).setCmd c).setLink s.link.idled).awake = true := (State.awake_congr hglb).trans hw
  refine ⟨v, q, c, ?_, by rw [htx]; rfl, hrx', hcounters, hstation⟩
  rw [State.breakEnds_of_breaking hp hs, hsent, he, State.unlessHalted_of_not _ (State.halted_of_awake hawake)]
  exact State.syncRx_of_working hawake hstays.1 (by change v.rx.active = true; rw [hrx']; exact hrx)

theorem State.endsAfterBreak_of_finishing (hp : s.tx.phase = .frame) (ha : s.tx.afterBreak = true) :
    s.endsAfterBreak = s.txEnd.syncRx := if_pos (by rw [LineTx.finishing, hp, ha]; rfl)

/-- The end of a cut frame where the link has been disabled (R5, log 33), and where it has not. -/
theorem State.endsAfterBreak_facts (hp : s.tx.phase = .frame) (ha : s.tx.afterBreak = true) :
    s.endsAfterBreak.lde = false ∧ s.endsAfterBreak.link = s.link ∧ s.endsAfterBreak.counters = s.counters ∧
      (s.link.en = false → s.endsAfterBreak.rx.active = false) := by
  obtain ⟨r, f, he, hact⟩ := s.txEnd.syncRx_eq
  have hact : s.link.en = false → r.active = false := fun hen =>
    hact.trans (State.rxWanted_of_off (s := s.txEnd) hen rfl)
  rw [State.endsAfterBreak_of_finishing hp ha, he]
  exact ⟨rfl, rfl, rfl, hact⟩

theorem State.endsAfterBreak_of_working (hw : s.awake = true) (hrx : s.rx.active = true) (he : s.link.en = true)
    (hp : s.tx.phase = .frame) (ha : s.tx.afterBreak = true) : s.endsAfterBreak = s.txEnd :=
  (State.endsAfterBreak_of_finishing hp ha).trans (State.syncRx_of_working (s := s.txEnd) hw he hrx)

/-- Settles O31: both ends release the line; a break's end settles the records that R52 says. -/
theorem breakEndsAndFrameEndsAfterBreak : Obligations.BreakEndsAndFrameEndsAfterBreak := by
  refine ⟨fun s hw hp ha => ?_, fun s hw hrx hstays => ⟨fun hp hs hu => ?_, fun hp ha => ?_⟩⟩
  · exact ⟨_, exec_transmissionEndAfterBreak hw, State.endsAfterBreak_facts hp ha⟩
  · obtain ⟨v, q, c, hv, htx, hrx', hcounters, hstation⟩ := State.breakEnds_facts hw hrx hstays hp hs hu
    refine ⟨_, exec_breakSent hw, ?_⟩
    rw [hv]
    exact ⟨State.lde_of_off htx, congrArg LineRx.brk hrx', congrArg LineRx.idle hrx', rfl, hcounters, hstation⟩
  · refine ⟨_, exec_transmissionEndAfterBreak hw, ?_⟩
    rw [State.endsAfterBreak_of_working hw hrx hstays.1 hp ha]
    exact ⟨rfl, rfl, rfl, rfl⟩

end Sys2Proof.Machine
end

section
/-! PROOFS. Writes of LINKCTL (R32, R61, R71), and the timers of the Link Engine (R43, R47, R60, R140). -/

namespace Sys2Proof.Machine

set_option Elab.async false

variable {s t u : State} {k : Fin 2} {m : Message} {n : Snapshot}

/-! ## The write -/

/-- The POLLEN part changes POLLEN, the pause and the Poll List's place alone. -/
theorem State.writePollen_eq (s : State) (p : Bool) :
    ∃ w c, s.writePollen p = (s.setPoll w).setLink { s.link with pollen := p, pause := c } := by
  unfold State.writePollen
  split
  next h =>
    subst h
    exact ⟨s.poll, s.link.pause, rfl⟩
  split
  next h =>
    subst h
    exact ⟨_, s.link.pause, rfl⟩
  next h =>
    rw [Bool.not_eq_true] at h
    subst h
    exact ⟨s.poll, none, rfl⟩

/-- The state as a write of EN = 0 stores it, before the link acts on it. -/
def State.enCleared (s : State) (w : PollList) (p : Bool) (c : Option Nat) : State :=
  ((s.setPoll w).setLink { s.link with pollen := p, pause := c, en := false }).setWakeDet .armed

theorem State.writeLinkctl_off (p : Bool) (h : s.link.en = true) :
    ∃ w c, s.writeLinkctl false p = (s.enCleared w p c).linkOff := by
  obtain ⟨w, c, hw⟩ := s.writePollen_eq p
  refine ⟨w, c, ?_⟩
  have hen : (s.writePollen p).link.en = true := by rw [hw]; exact h
  have hoff : s.writeLinkctl false p =
      (((s.writePollen p).setLink { (s.writePollen p).link with en := false }).setWakeDet .armed).linkOff := if_pos hen
  rw [hoff, hw]
  rfl

theorem exec_linkDisable (p : Bool) (h : s.due.awake = true) :
    exec (.linkDisable p) s = .next (s.due.writeLinkctl false p).settle :=
  congrArg _ (State.access_of_live _ (State.live_of_awake h))

theorem exec_linkEnable (p : Bool) (h : s.due.awake = true) :
    exec (.linkEnable p) s = .next (s.due.writeLinkctl true p).settle :=
  congrArg _ (State.access_of_live _ (State.live_of_awake h))

theorem exec_pollEnable (e : Bool) (h : s.due.awake = true) :
    exec (.pollEnable e) s = .next (s.due.writeLinkctl e true).settle :=
  congrArg _ (State.access_of_live _ (State.live_of_awake h))

theorem exec_pollDisable (e : Bool) (h : s.due.awake = true) :
    exec (.pollDisable e) s = .next (s.due.writeLinkctl e false).settle :=
  congrArg _ (State.access_of_live _ (State.live_of_awake h))

/-! ## EN = 0 -/

/-- The link Disabled by a transmitter that is off (R61). -/
def Link.disabled (l : Link) : Link :=
  { l with state := .disabled, x := {}, outbound := 0, pause := none, offPending := false }

theorem State.toIdle_link_state_of_off (h : s.link.en = false) : s.toIdle.link.state = .disabled := by
  have hen : s.enterDisabled.link.en = false := by
    unfold State.enterDisabled
    dsimp only
    split <;> exact h
  unfold State.toIdle
  rw [h, Bool.false_and, if_neg Bool.false_ne_true]
  dsimp only
  rw [hen, if_neg Bool.false_ne_true]
  exact s.enterDisabled_link_state

/-- With EN 0 and the transmitter off: the link, the receiver and FRX (R61). -/
theorem State.toIdle_off_facts (he : s.link.en = false) (ht : s.tx.phase = .off) :
    s.toIdle.link = s.link.disabled ∧ s.toIdle.rx = {} ∧ s.toIdle.frx.state = .hunt := by
  rw [State.toIdle_of_disabled he ht]
  exact ⟨rfl, rfl, rfl⟩

theorem State.enCleared_frame (s : State) (w : PollList) (p : Bool) (c : Option Nat) :
    (s.enCleared w p c).slots = s.slots ∧ (s.enCleared w p c).stn = s.stn ∧
      (s.enCleared w p c).listen = s.listen ∧ (s.enCleared w p c).rings = s.rings ∧
      (s.enCleared w p c).counters = s.counters ∧ (s.enCleared w p c).cmd = s.cmd ∧ (s.enCleared w p c).tx = s.tx ∧
      (s.enCleared w p c).halted = s.halted := ⟨rfl, rfl, rfl, rfl, rfl, rfl, rfl, rfl⟩

theorem State.cancelGuard_none (h : s.link.x.slot = none) : s.cancelGuard = s.toIdle := by
  simp only [State.cancelGuard, h]

theorem State.cancelGuard_some (h : s.link.x.slot = some k) : s.cancelGuard = s.toIdle.settleCancelled k := by
  simp only [State.cancelGuard, h]

theorem State.settleCancelled_of_not_stopping (h : ∀ m : Message, s.slot k = some m → (s.ring m.ring).state ≠ .stopping) :
    s.settleCancelled k = s := by
  cases hm : s.slot k with
  | none => simp [State.settleCancelled, hm]
  | some m => simp [State.settleCancelled, hm, h m hm]

/-- A decision or reply cancelled: what becomes of its message is finishing, which leaves a message of a Running ring as it
was (R36, R116). -/
theorem State.cancelGuard_facts (s : State) :
    s.toIdle.Finishes s.cancelGuard ∧
      ((∀ (k : Fin 2) (m : Message), s.link.x.slot = some k → s.slot k = some m →
        (s.ring m.ring).state ≠ .stopping) → s.cancelGuard = s.toIdle) := by
  obtain ⟨hslots, -, -, -, -, -, hrings, -⟩ := s.toIdle_frame
  cases hx : s.link.x.slot with
  | none =>
    rw [State.cancelGuard_none hx]
    exact ⟨.refl _, fun _ => rfl⟩
  | some k =>
    rw [State.cancelGuard_some hx]
    refine ⟨State.finishes_settleCancelled _ k, fun h => State.settleCancelled_of_not_stopping fun m hm => ?_⟩
    rw [State.slot, hslots] at hm
    rw [State.ring, hrings]
    exact h k m rfl hm

/-- EN = 0 in Guard with the transmitter off (R61). -/
theorem State.writeLinkctl_off_guard (p : Bool) (hw : s.awake = true) (he : s.link.en = true)
    (hs : s.link.state = .guard) (ht : s.tx.phase = .off) :
    let u := s.writeLinkctl false p
    u.link.en = false ∧ u.link.state = .disabled ∧ u.link.x = {} ∧ u.lde = false ∧ u.rx.active = false ∧
      u.stn = s.stn ∧ u.cmd = s.cmd ∧ u.counters = s.counters ∧
      ((∀ (k : Fin 2) (m : Message), s.link.x.slot = some k → s.slot k = some m →
        (s.ring m.ring).state ≠ .stopping) → u.slots = s.slots ∧ u.halted = false) := by
  obtain ⟨w, c, h⟩ := State.writeLinkctl_off p he
  have hoff : (s.enCleared w p c).linkOff = (s.enCleared w p c).cancelGuard := by
    simp only [State.linkOff, show (s.enCleared w p c).link.state = .guard from hs]
  have hstop : (∀ (k : Fin 2) (m : Message), s.link.x.slot = some k → s.slot k = some m →
      (s.ring m.ring).state ≠ .stopping) → (s.enCleared w p c).cancelGuard = (s.enCleared w p c).toIdle :=
    (s.enCleared w p c).cancelGuard_facts.2
  obtain ⟨hslots, hstn, -, -, hcounters, hcmd, htx, hhalt⟩ := s.enCleared_frame w p c
  have hen : (s.enCleared w p c).link.en = false := rfl
  rw [h, hoff]
  generalize s.enCleared w p c = v at *
  obtain ⟨hlink, hrx, -⟩ := State.toIdle_off_facts hen (by rw [htx]; exact ht)
  obtain ⟨hslots', hstn', hcounters', -, -, -, -, -, htx', hcmd'⟩ := v.toIdle_frame
  have hfin := v.cancelGuard_facts.1
  refine ⟨?_, ?_, ?_, State.lde_of_off (hfin.off (by rw [htx', htx]; exact ht)), hfin.silent (by rw [hrx]),
    by rw [hfin.records, hstn', hstn], by rw [hfin.cmd, hcmd', hcmd], by rw [hfin.counters, hcounters', hcounters],
    fun hr => ?_⟩
  · rw [hfin.link, hlink]
    exact hen
  · rw [hfin.link, hlink]
    rfl
  · rw [hfin.link, hlink]
    rfl
  · rw [hstop hr, hslots', hslots, State.halted_toIdle, hhalt]
    exact ⟨rfl, State.halted_of_awake hw⟩

/-- EN = 0 in Sending or Breaking is only kept (R61). -/
theorem State.writeLinkctl_off_busy (p : Bool) (he : s.link.en = true)
    (hs : s.link.state = .sending ∨ s.link.state = .breaking) :
    let u := s.writeLinkctl false p
    u.link.en = false ∧ u.link.state = s.link.state ∧ u.link.x = s.link.x ∧ u.link.offPending = true ∧ u.tx = s.tx ∧
      u.rx = s.rx ∧ u.slots = s.slots ∧ u.stn = s.stn := by
  obtain ⟨w, c, h⟩ := State.writeLinkctl_off p he
  have hoff : (s.enCleared w p c).linkOff = (s.enCleared w p c).setLink
      { (s.enCleared w p c).link with offPending := true } := by
    rcases hs with hs | hs
    · simp only [State.linkOff, show (s.enCleared w p c).link.state = .sending from hs]
    · simp only [State.linkOff, show (s.enCleared w p c).link.state = .breaking from hs]
  rw [h, hoff]
  exact ⟨rfl, rfl, rfl, rfl, rfl, rfl, rfl, rfl⟩

theorem State.writeLinkctl_off_awaiting (p : Bool) (he : s.link.en = true) (hs : s.link.state = .awaiting) :
    ∃ w c, s.writeLinkctl false p = (s.enCleared w p c).failExchange .linkOff := by
  obtain ⟨w, c, h⟩ := State.writeLinkctl_off p he
  refine ⟨w, c, h.trans ?_⟩
  simp only [State.linkOff, show (s.enCleared w p c).link.state = .awaiting from hs]

/-- Where EN is 0 a failed outbound attempt or poll leaves the link Disabled (R61). -/
theorem State.failExchange_outbound_off (c : AttemptCause) (hu : s.exchangeUnsound = none) (hh : s.halted = false)
    (hk : s.link.x.kind = .outbound) (hx : s.link.x.slot = some k) (hm : s.slot k = some m) (h : s.ReadyIn m n)
    (he : s.link.en = false) : (s.failExchange c).link.state = .disabled := by
  rw [State.failExchange_outbound c hu hh hk hx hm h]
  exact State.toIdle_link_state_of_off he

theorem State.failExchange_poll_off (c : AttemptCause) (hu : s.exchangeUnsound = none) (hh : s.halted = false)
    (hk : s.link.x.kind = .poll) (he : s.link.en = false) : (s.failExchange c).link.state = .disabled := by
  rw [State.failExchange_poll c hu hh hk]
  exact State.toIdle_link_state_of_off he

/-- EN = 0 while a poll's reply is awaited fails the poll with LINK_OFF. -/
theorem State.writeLinkctl_off_poll (p : Bool) (hw : s.awake = true) (he : s.link.en = true)
    (hs : s.link.state = .awaiting) (hr : s.line.role = .anchor) (hu : s.exchangeUnsound = none)
    (h0 : s.link.x.station ≠ 0) (h1 : s.link.x.station ≠ 127) (hk : s.link.x.kind = .poll) :
    let u := s.writeLinkctl false p
    u.link.state = .disabled ∧ u.slots = s.slots ∧ u.station s.link.x.station =
      { s.station s.link.x.station with errCount := satInc (s.station s.link.x.station).errCount } := by
  obtain ⟨w, c, h⟩ := State.writeLinkctl_off_awaiting p he hs
  obtain ⟨hslots, -, hstation⟩ := State.failExchange_poll_facts (s := s.enCleared w p c) .linkOff hr hu
    (State.halted_of_awake hw) hk h0 h1
  rw [h]
  exact ⟨State.failExchange_poll_off .linkOff (by exact hu) (by exact State.halted_of_awake hw) hk rfl, hslots,
    hstation.trans (Station.failed_of_heard _ (fun e => nomatch e))⟩

/-- EN = 0 while the reply to an outbound attempt is awaited fails the attempt with LINK_OFF. -/
theorem State.writeLinkctl_off_outbound (p : Bool) (hw : s.awake = true) (he : s.link.en = true)
    (hs : s.link.state = .awaiting) (hr : s.line.role = .anchor) (hu : s.exchangeUnsound = none)
    (h0 : s.link.x.station ≠ 0) (h1 : s.link.x.station ≠ 127) (hk : s.link.x.kind = .outbound)
    (hx : s.link.x.slot = some k) (hm : s.slot k = some m) (h : s.ReadyIn m n) :
    let u := s.writeLinkctl false p
    u.link.state = .disabled ∧ u.counters = s.counters ∧
      u.slot k = some (m.afterFailure n .linkOff s.link.x.beganSilent) ∧
      u.station s.link.x.station = (s.station s.link.x.station).failed s.line.missEff .linkOff
        (m.lastAttempt s.link.x.beganSilent) := by
  obtain ⟨w, c, hoff⟩ := State.writeLinkctl_off_awaiting p he hs
  obtain ⟨hslot, hcounters, hstation⟩ := State.failExchange_outbound_facts (s := s.enCleared w p c) .linkOff hr hu
    (State.halted_of_awake hw) hk hx hm h h0 h1
  rw [hoff]
  exact ⟨State.failExchange_outbound_off .linkOff (by exact hu) (by exact State.halted_of_awake hw) hk hx hm h rfl,
    hcounters, hslot, hstation⟩

/-- EN = 0 in Idle with the transmitter off (R61). -/
theorem State.writeLinkctl_off_idle (p : Bool) (he : s.link.en = true) (hs : s.link.state = .idle)
    (ht : s.tx.phase = .off) :
    let u := s.writeLinkctl false p
    u.link.en = false ∧ u.link.pollen = p ∧ u.link.state = .disabled ∧ u.link.outbound = 0 ∧ u.link.pause = none ∧
      u.rx.active = false ∧ u.frx.state = .hunt ∧ u.slots = s.slots ∧ u.stn = s.stn ∧ u.listen = s.listen := by
  obtain ⟨w, c, h⟩ := State.writeLinkctl_off p he
  have hoff : (s.enCleared w p c).linkOff = (s.enCleared w p c).toIdle := by
    simp only [State.linkOff, show (s.enCleared w p c).link.state = .idle from hs]
  obtain ⟨hlink, hrx, hfrx⟩ := State.toIdle_off_facts (s := s.enCleared w p c) rfl ht
  obtain ⟨hslots, hstn, -, -, hlisten, -⟩ := (s.enCleared w p c).toIdle_frame
  rw [h, hoff]
  dsimp only
  rw [hlink, hrx]
  exact ⟨rfl, rfl, rfl, rfl, rfl, rfl, hfrx, hslots, hstn, hlisten⟩

/-! ## EN = 1, and POLLEN -/

/-- EN = 1 in Disabled (R5, R32). -/
theorem State.writeLinkctl_on (p : Bool) (hw : s.awake = true) (hs : s.link.state = .disabled) :
    let u := s.writeLinkctl true p
    u.link.en = true ∧ u.link.pollen = p ∧ u.link.state = .idle ∧ u.rx.active = true ∧
      (s.line.role = .anchor → u.link.outbound = 0) := by
  obtain ⟨w, c, h⟩ := s.writePollen_eq p
  let v := (s.setPoll w).setLink { s.link with pollen := p, pause := c, en := true }
  have hon : s.writeLinkctl true p = v.enableLink := by
    have h1 : s.writeLinkctl true p = (s.writePollen p).enWritten1 := rfl
    rw [h1, h]
    exact if_pos ⟨hs, hw⟩
  obtain ⟨l, r, f, he, hstate, hen, hpollen, hout, hact⟩ := v.enableLink_eq
  have hw : v.awake = true := hw
  rw [hon, he]
  refine ⟨hen, hpollen, hstate, hact.trans (by rw [hw]; rfl), fun hr => hout.trans (if_pos hr)⟩

theorem State.closes_linkOff (s : State) : s.Closes s.linkOff := by
  have hcancel : s.Closes s.cancelGuard := s.closes_toIdle.trans s.cancelGuard_facts.1.closes
  unfold State.linkOff
  split
  · exact .refl s
  · exact s.closes_toIdle
  · exact hcancel
  · exact {}
  · exact s.closes_failExchange _
  · exact {}

/-- What EN's part of the write does besides leaves the Poll List, POLLEN and an abandoned pause. -/
theorem State.writeLinkctl_polls (s : State) (e p : Bool) :
    (s.writePollen p).Closes (s.writeLinkctl e p) := by
  generalize hv : s.writePollen p = v
  cases e with
  | true =>
    have h : s.writeLinkctl true p = v.enWritten1 := by rw [← hv]; rfl
    rw [h]
    exact .ite (fun _ => State.Closes.trans (t := v.setLink { v.link with en := true }) {} (State.closes_enableLink _))
      fun _ => {}
  | false =>
    have h : s.writeLinkctl false p = v.enWritten0 := by rw [← hv]; rfl
    rw [h]
    exact .ite (fun _ => State.Closes.trans (t := (v.setLink { v.link with en := false }).setWakeDet .armed) {}
      (State.closes_linkOff _)) fun _ => .refl v

theorem State.writePollen_on (h : s.link.pollen = false) :
    s.writePollen true = (s.setPoll { s.poll with ptr := 0, round := 0 }).setLink { s.link with pollen := true } := by
  simp [State.writePollen, h]

theorem State.writePollen_off (h : s.link.pollen = true) :
    s.writePollen false = s.setLink { s.link with pollen := false, pause := none } := by
  simp [State.writePollen, h]

/-! ## The end of a frame or break after EN = 0 -/

theorem State.toIdle_en (s : State) : s.toIdle.link.en = s.link.en := by
  unfold State.toIdle
  split
  · rfl
  · have hen : s.enterDisabled.link.en = s.link.en := by
      unfold State.enterDisabled
      dsimp only
      split <;> rfl
    dsimp only
    split
    · obtain ⟨l, r, f, h, -, hl, -⟩ := s.enterDisabled.enableLink_eq
      rw [h]
      exact hl.trans hen
    · exact hen

/-- The end of the frame of an exchange that ends with it, with EN 0. -/
theorem State.frameEnds_off_other (hw : s.awake = true) (he : s.link.en = false) (hp : s.tx.phase = .frame)
    (ha : s.tx.afterBreak = false) (hc : s.tx.contention = false) (hs : s.link.state = .sending)
    (hat : s.link.x.isAttempt = false) (hne : s.link.x.kind ≠ .syncAll) :
    let u := s.frameEnds
    u.lde = false ∧ u.link.state = .disabled ∧ u.rx.active = false ∧ u.stn = s.stn ∧ u.slots = s.slots := by
  have hsent : s.txEnd.linkFrameSent = s.txEnd.toIdle := State.linkFrameSent_other hat hne
  obtain ⟨hlink, -, -⟩ := State.toIdle_off_facts (s := s.txEnd) he rfl
  obtain ⟨hslots, hstn, -, -, -, -, -, -, htx, -⟩ := s.txEnd.toIdle_frame
  have hslots : s.txEnd.toIdle.slots = s.slots := hslots
  have hstn : s.txEnd.toIdle.stn = s.stn := hstn
  have htx : s.txEnd.toIdle.tx.phase = .off := by rw [htx]; rfl
  have hen : s.txEnd.toIdle.link.en = false := by rw [hlink]; exact he
  have hstate : s.txEnd.toIdle.link.state = .disabled := by rw [hlink]; rfl
  have hrun : s.txEnd.toIdle.halted = false := s.txEnd.halted_toIdle.trans (State.halted_of_awake hw)
  rw [State.frameEnds_of_sound hp ha hc, State.afterFrame_of_sending (by exact hs) (by rw [hsent]; exact hrun), hsent]
  generalize s.txEnd.toIdle = v at *
  obtain ⟨r, f, hsync, hact⟩ := v.syncRx_eq
  rw [hsync]
  exact ⟨State.lde_of_off htx, hstate, hact.trans (State.rxWanted_of_off hen htx), hstn, hslots⟩

/-- The end of an outbound attempt's frame with EN 0: the attempt fails with LINK_OFF (R61). -/
theorem State.frameEnds_off_outbound (hw : s.awake = true) (he : s.link.en = false) (hp : s.tx.phase = .frame)
    (ha : s.tx.afterBreak = false) (hc : s.tx.contention = false) (hs : s.link.state = .sending)
    (hu : s.exchangeUnsound = none) (hk : s.link.x.kind = .outbound)
    (hx : s.link.x.slot = some k) (hm : s.slot k = some m) (h : s.ReadyIn m n) :
    let u := s.frameEnds
    u.lde = false ∧ u.link.state = .disabled ∧ u.rx.active = false ∧
      u.slot k = some (m.afterFailure n .linkOff s.link.x.beganSilent) := by
  have hrun : s.halted = false := State.halted_of_awake hw
  have hsent : s.txEnd.linkFrameSent = s.txEnd.failExchange .linkOff := by
    have hne : s.txEnd.link.x.kind ≠ .syncAll := by
      change s.link.x.kind ≠ .syncAll
      rw [hk]
      exact fun e => nomatch e
    have hat : s.txEnd.link.x.isAttempt = true := by
      change s.link.x.isAttempt = true
      simp [Exchange.isAttempt, hk]
    have hoff : s.txEnd.link.off = true := by
      change s.link.off = true
      simp [Link.off, he]
    rw [State.linkFrameSent, if_neg hne, if_pos hat, if_pos hoff]
  have hfail := State.failExchange_outbound (s := s.txEnd) .linkOff hu hrun hk hx hm h
  have hstate := State.failExchange_outbound_off (s := s.txEnd) .linkOff hu hrun hk hx hm h he
  have htx := (s.txEnd.closes_failExchange .linkOff).off rfl
  have hen : (s.txEnd.failExchange .linkOff).link.en = false := by
    rw [hfail, State.toIdle_en]
    exact he
  have hh : (s.txEnd.failExchange .linkOff).halted = false := by
    rw [hfail, State.halted_toIdle]
    exact (State.marks_failStation s.txEnd _ _ _).frame.2.2.2.2.2.2.2.2.2.2.2.2.trans hrun
  have hslot : (s.txEnd.failExchange .linkOff).slot k =
      some (m.afterFailure n .linkOff s.link.x.beganSilent) := by
    rw [hfail, State.slot, (State.toIdle_frame _).1]
    exact State.slot_setSlot_self _ k _
  rw [State.frameEnds_of_sound hp ha hc, State.afterFrame_of_sending (by exact hs) (by rw [hsent]; exact hh), hsent]
  generalize s.txEnd.failExchange .linkOff = v at hstate htx hen hslot
  obtain ⟨r, f, hsync, hact⟩ := v.syncRx_eq
  rw [hsync]
  exact ⟨State.lde_of_off htx, hstate, hact.trans (State.rxWanted_of_off hen htx), hslot⟩

/-- The end of a sent break with EN 0. -/
theorem State.breakEnds_off (hw : s.awake = true) (he : s.link.en = false) (hp : s.tx.phase = .brk)
    (hs : s.link.state = .breaking)
    (hu : s.line.brkSync = true → s.line.role = .anchor → s.stationsUnsound = false) :
    s.breakEnds.lde = false ∧ s.breakEnds.link.state = .disabled ∧ s.breakEnds.rx.active = false := by
  have hsent := State.linkBreakSent_of_sound (s := s.breakSilenced) hu
  obtain ⟨hlink, hglb, -, htx, -⟩ := s.breakSilenced.breakRecords_frame
  generalize (if s.breakSilenced.line.brkSync then s.breakSilenced.syncRecords else s.breakSilenced) = v at *
  obtain ⟨q, c, hend⟩ := v.endLineCommand_eq opLineBreak
  have hen : ((v.setCq q).setCmd c).link.en = false := by
    change v.link.en = false
    rw [hlink]
    exact he
  have htx : ((v.setCq q).setCmd c).tx.phase = .off := by
    change v.tx.phase = .off
    rw [htx]
    rfl
  have hrun : ((v.setCq q).setCmd c).halted = false := State.halted_of_awake ((State.awake_congr hglb).trans hw)
  rw [hend] at hsent
  generalize (v.setCq q).setCmd c = w at *
  obtain ⟨hlink', -, -⟩ := State.toIdle_off_facts hen htx
  have hen' : w.toIdle.link.en = false := by rw [hlink']; exact hen
  have hstate : w.toIdle.link.state = .disabled := by rw [hlink']; rfl
  have htx' : w.toIdle.tx.phase = .off := w.closes_toIdle.off htx
  have hrun' : w.toIdle.halted = false := w.halted_toIdle.trans hrun
  rw [State.breakEnds_of_breaking hp hs, hsent, State.unlessHalted_of_not _ hrun']
  generalize w.toIdle = x at *
  obtain ⟨r, f, hsync, hact⟩ := x.syncRx_eq
  rw [hsync]
  exact ⟨State.lde_of_off htx', hstate, hact.trans (State.rxWanted_of_off hen' htx')⟩

/-- Settles O52: what a LINKCTL write does in every state of the link. -/
theorem linkControlWrites : Obligations.LinkControlWrites := by
  refine ⟨fun s p hw he => ⟨fun hs ht => ?_, fun hs => ?_, fun hs hr hu h0 h1 => ⟨fun hk => ?_, fun k m n hk hx hm hin => ?_⟩⟩,
    fun s hw he => ⟨fun hp ha hc hs => ⟨fun hat hne => ?_, fun k m n hr hu hk hx hm hin hmore hsil => ?_⟩,
      fun hp hs hu => ?_⟩,
    fun s hw => ⟨fun p hs => ?_, fun p hs he ht => ?_, fun e hp => ?_, fun e hp => ?_⟩⟩
  · exact ⟨_, exec_linkDisable p hw, State.writeLinkctl_off_guard p hw he hs ht⟩
  · exact ⟨_, exec_linkDisable p hw, State.writeLinkctl_off_busy p he hs⟩
  · exact ⟨_, exec_linkDisable p hw, State.writeLinkctl_off_poll p hw he hs hr hu h0 h1 hk⟩
  · obtain ⟨hstate, hcounters, hslot, hstation⟩ :=
      State.writeLinkctl_off_outbound p hw he hs hr hu h0 h1 hk hx hm hin
    have hlast := Message.lastAttempt_iff hin.1 s.due.link.x.beganSilent
    refine ⟨_, exec_linkDisable p hw, hstate, hcounters, fun hmore => ?_, fun hl => ?_⟩
    · have hno : ¬m.lastAttempt s.due.link.x.beganSilent = true := fun h => hmore (hlast.mp h)
      rw [hslot, hstation, Message.afterFailure_of_more hno, Bool.eq_false_of_not_eq_true hno,
        Station.failed_of_heard (c := .linkOff) _ (fun e => nomatch e)]
      exact ⟨rfl, rfl⟩
    · rw [hslot, hstation, Message.afterFailure_of_last (hlast.mpr hl), hlast.mpr hl]
      exact ⟨rfl, rfl⟩
  · exact ⟨_, exec_frameSent hw, State.frameEnds_off_other hw he hp ha hc hs hat hne⟩
  · obtain ⟨hlde, hstate, hact, hslot⟩ := State.frameEnds_off_outbound hw he hp ha hc hs hu hk hx hm hin
    refine ⟨_, exec_frameSent hw, hlde, hstate, hact, hslot.trans ?_⟩
    have hno : ¬m.lastAttempt s.due.link.x.beganSilent = true := by
      rw [Message.lastAttempt_iff hin.1, hsil]
      rintro (h | h)
      · exact hmore h
      · cases h
    rw [Message.afterFailure_of_more hno]
    rfl
  · exact ⟨_, exec_breakSent hw, State.breakEnds_off hw he hp hs hu⟩
  · exact ⟨_, exec_linkEnable p hw, State.writeLinkctl_on p hw hs⟩
  · exact ⟨_, exec_linkDisable p hw, State.writeLinkctl_off_idle p he hs ht⟩
  · have hcloses := s.due.writeLinkctl_polls e true
    rw [State.writePollen_on hp] at hcloses
    exact ⟨_, exec_pollEnable e hw, hcloses.pollen, hcloses.poll⟩
  · have hcloses := s.due.writeLinkctl_polls e false
    rw [State.writePollen_off hp] at hcloses
    exact ⟨_, exec_pollDisable e hw, hcloses.pollen, hcloses.pause rfl, hcloses.poll⟩

/-! ## Timers -/

theorem exec_broadcastSettled (h : s.due.awake = true) :
    exec .broadcastSettled s = .next s.due.broadcastSettles.settle := congrArg _ (State.event_of_awake _ h)

/-- A broadcast whose settling ends with its message still there (R47). -/
theorem State.broadcastSettles_facts (hh : s.halted = false) (hs : s.link.state = .awaiting)
    (hk : s.link.x.kind = .bcast) (hi : s.rx.idle.isSome = true) (hc : s.rx.inChar = false)
    (hu : s.exchangeUnsound = none) (hx : s.link.x.slot = some k) (hm : s.slot k = some m) (hstays : s.LinkStays) :
    let u := s.broadcastSettles
    u.slot k = some { m.ended with code := .ok, phase := .finishing .held } ∧
      u.cq.holding = s.cq.holding ++ [({ m.ended with code := .ok } : Message).entry k] ∧ u.link.state = .idle ∧
      u.stn = s.stn := by
  obtain ⟨hhalt, hlink, hstn, -, -, -, hslot, hholding⟩ := State.ackEnds_facts hm
  have hsettles : s.broadcastSettles = (s.endMessage k .ok).toIdle := by
    rw [State.broadcastSettles, if_pos ⟨hs, hk, .inl hi, hc⟩]
    simp only [State.linkSettled, hu, State.checked_none, hx]
    exact State.unlessHalted_of_not _ (hhalt.trans hh)
  generalize s.endMessage k .ok = v at *
  rw [hsettles, State.toIdle_of_stays (by rw [State.LinkStays, hlink]; exact hstays)]
  exact ⟨hslot, hholding, rfl, hstn⟩

theorem State.anchorLost_of_watch (hr : s.line.role = .member) (hs : s.link.state ≠ .disabled)
    (ha : s.link.anchRunning = true) (ht : s.line.anchTo ≠ 0) :
    s.anchorLost = (s.setLink { s.link with anchRunning := false, anchLost := true }).raise .anchlost := by
  have ht : (s.line.anchTo != 0) = true := bne_iff_ne.mpr ht
  refine if_pos ?_
  rw [ht, Bool.and_true]
  simp [State.anchorWatch, hr, hs, ha]

theorem State.delayExpires_of_running (h : s.cq.timer.isSome = true) : s.delayExpires = s.moderationExpire := if_pos h

/-- Settles O32: what each timer's expiry does. -/
theorem timersExpire : Obligations.TimersExpire := by
  refine ⟨fun s k m hw hs hk hi hc hu hx hm hstays => ?_, fun s hw => ⟨?_, fun hr hs ha ht => ?_, fun ht => ?_⟩⟩
  · exact ⟨_, exec_broadcastSettled hw,
      State.broadcastSettles_facts (State.halted_of_awake hw) hs hk hi hc hu hx hm hstays⟩
  · exact congrArg _ (State.event_of_awake State.pauseEnds hw)
  · refine ⟨_, congrArg _ (State.event_of_awake State.anchorLost hw), ?_⟩
    rw [State.anchorLost_of_watch hr hs ha ht]
    exact ⟨rfl, rfl, rfl, rfl⟩
  · refine ⟨_, congrArg _ (State.event_of_awake State.delayExpires hw), ?_⟩
    rw [State.delayExpires_of_running ht]
    exact ⟨rfl, rfl⟩

end Sys2Proof.Machine
end

section
/-! PROOFS. The anchor's decision and its poll scan (R41, R43, R72, R73), the start of staging (R103), and what a transmission
start sends (R1, R13, R29, R35). -/

namespace Sys2Proof.Machine

set_option Elab.async false

variable {s t u : State} {k : Fin 2} {m : Message} {n : Snapshot}

/-! ## The poll scan -/

theorem PollList.advance_of_end {p : PollList} (h : p.len.toNat ≤ p.ptr.toNat + 1) :
    p.advance = { p with ptr := 0, round := p.round + 1 } := if_pos h

theorem PollList.advance_of_inside {p : PollList} (h : p.ptr.toNat + 1 < p.len.toNat) :
    p.advance = { p with ptr := p.ptr + 1 } := if_neg (Nat.not_le.mpr h)

theorem ofNat_succ_eq (i : Nat) : BitVec.ofNat 5 (i + 1) = BitVec.ofNat 5 i + 1 :=
  BitVec.eq_of_toNat_eq (by simp [BitVec.toNat_ofNat, BitVec.toNat_add])

/-- `i` steps through the list that do not pass its end, and `i` steps that do so once (R72). -/
theorem PollList.advance_iterate {p : PollList} (hp : p.ptr.toNat < p.len.toNat) (hl : p.len.toNat ≤ 32) (i : Nat)
    (hi : i ≤ p.len.toNat) :
    PollList.advance^[i] p =
      if p.ptr.toNat + i < p.len.toNat then { p with ptr := p.ptr + BitVec.ofNat 5 i }
      else { p with ptr := BitVec.ofNat 5 (p.ptr.toNat + i - p.len.toNat), round := p.round + 1 } := by
  induction i with
  | zero => simp [hp]
  | succ i ih =>
    rw [Function.iterate_succ_apply', ih (by omega)]
    by_cases h : p.ptr.toNat + i < p.len.toNat
    · have hptr : (p.ptr + BitVec.ofNat 5 i).toNat = p.ptr.toNat + i := by
        rw [BitVec.toNat_add, BitVec.toNat_ofNat]
        omega
      rw [if_pos h]
      by_cases h' : p.ptr.toNat + (i + 1) < p.len.toNat
      · rw [if_pos h', PollList.advance_of_inside (by dsimp only; omega)]
        rw [ofNat_succ_eq, ← BitVec.add_assoc]
      · rw [if_neg h', PollList.advance_of_end (by dsimp only; omega)]
        have he : p.ptr.toNat + (i + 1) - p.len.toNat = 0 := by omega
        rw [he]
        rfl
    · have hptr : (BitVec.ofNat 5 (p.ptr.toNat + i - p.len.toNat)).toNat = p.ptr.toNat + i - p.len.toNat := by
        rw [BitVec.toNat_ofNat]
        omega
      rw [if_neg h, if_neg (by omega), PollList.advance_of_inside (by dsimp only; omega)]
      have he : p.ptr.toNat + (i + 1) - p.len.toNat = p.ptr.toNat + i - p.len.toNat + 1 := by omega
      rw [he, ofNat_succ_eq]

/-- Once round the list comes back to where it began (R72). -/
theorem PollList.advance_round {p : PollList} (hp : p.ptr.toNat < p.len.toNat) (hl : p.len.toNat ≤ 32) :
    PollList.advance^[p.len.toNat] p = { p with round := p.round + 1 } := by
  have hptr : BitVec.ofNat 5 p.ptr.toNat = p.ptr := BitVec.eq_of_toNat_eq (by simp)
  rw [PollList.advance_iterate hp hl _ le_rfl, if_neg (by omega), Nat.add_sub_cancel, hptr]

/-- A scan of `n` entries without a result, that did not halt the controller, has passed them all and begins a pause (R73). -/
theorem State.scan_none (n : Nat) (h : State.scan n s = (t, none)) (hh : t.halted = false) :
    t = (s.setPoll (PollList.advance^[n] s.poll)).setLink { s.link with pause := some 0 } := by
  induction n generalizing s with
  | zero =>
    rw [State.scan, Prod.mk.injEq] at h
    rw [← h.1]
    rfl
  | succ n ih =>
    have hnext (hn : State.scan n (s.setPoll s.poll.advance) = (t, none)) :
        t = (s.setPoll (PollList.advance^[n + 1] s.poll)).setLink { s.link with pause := some 0 } := ih hn
    unfold State.scan at h
    dsimp only at h
    split at h
    · exact hnext h
    split at h
    · rw [Prod.mk.injEq] at h
      rw [← h.1, State.halted_enterHalt] at hh
      cases hh
    split at h
    · exact hnext h
    · cases h

theorem State.pollScan_none (hc : s.canScan = true) (h : s.pollScan = (t, none)) (hh : t.halted = false) :
    t = (s.setPoll (PollList.advance^[s.poll.len.toNat] s.poll)).setLink { s.link with pause := some 0 } :=
  State.scan_none _ ((if_pos hc).symm.trans h) hh

/-- Settles O34: ROUND has advanced once, PTR stands where it started, and a pause begins. -/
theorem scanWithoutResult : Obligations.ScanWithoutResult := by
  intro s t hc hp hl h hh
  rw [State.pollScan_none hc h hh, PollList.advance_round hp hl]
  exact ⟨rfl, rfl, rfl⟩

/-- A scan that finds no station changes no record, no message and no count. -/
theorem State.pollScan_none_frame (h : s.pollScan = (t, none)) (hh : t.halted = false) :
    t.stn = s.stn ∧ t.slots = s.slots ∧ t.link.outbound = s.link.outbound := by
  cases hc : s.canScan with
  | true =>
    rw [State.pollScan_none hc h hh]
    exact ⟨rfl, rfl, rfl⟩
  | false =>
    rw [State.pollScan, if_neg (ne_true_of_eq_false hc), Prod.mk.injEq] at h
    rw [← h.1]
    exact ⟨rfl, rfl, rfl⟩

theorem State.canScan_eq_false (h : s.link.pollen = false ∨ s.poll.len = 0 ∨ s.link.pause.isSome = true) :
    s.canScan = false := by
  rcases h with h | h | h
  · simp [State.canScan, h]
  · simp [State.canScan, h]
  · cases hp : s.link.pause with
    | none => rw [hp] at h; cases h
    | some c => simp [State.canScan, hp]

theorem State.pollScan_of_not (h : s.canScan = false) : s.pollScan = (s, none) := if_neg (ne_true_of_eq_false h)

/-- The entry at PTR that can be polled is the scan's result (R72). -/
theorem State.pollScan_current (hp : s.link.pollen = true) (hl : s.poll.len ≠ 0) (hn : s.link.pause = none)
    (h0 : s.poll.current ≠ 0) (h1 : s.poll.current ≠ 127) (hs : (s.station s.poll.current).sound = true)
    (hr : (s.station s.poll.current).presence ≠ .silent ∨ s.poll.round = 0) :
    s.pollScan = (s.setPoll s.poll.advance, some s.poll.current) := by
  have hc : s.canScan = true := by
    have hl' : (s.poll.len != 0) = true := bne_iff_ne.mpr hl
    simp only [State.canScan, hp, hl', hn, Option.isNone_none, Bool.and_self]
  have hpos : s.poll.len.toNat ≠ 0 := fun h => hl (BitVec.eq_of_toNat_eq h)
  obtain ⟨j, hj⟩ := Nat.exists_eq_succ_of_ne_zero hpos
  have hvalid : invalidEntry s.poll.current = false := by
    rw [invalidEntry, beq_false_of_ne h0, beq_false_of_ne h1]
    rfl
  have hskip : ¬((s.station s.poll.current).presence = .silent ∧ s.poll.round ≠ 0) := fun ⟨ha, hb⟩ =>
    hr.elim (fun h => h ha) hb
  rw [State.pollScan, if_pos hc, hj, State.scan]
  simp only [hvalid, hs, hskip, Bool.not_true, Bool.false_eq_true, if_false]

/-! ## The decision -/

/-- The exchange that sends the message with snapshot `n` (R41). -/
theorem State.takeOutbound_of_sound (hm : s.slot k = some m) (hn : m.snap = some n)
    (hs : n.bcast = false → (s.station n.e.station).sound = true) :
    s.takeOutbound k = s.setLink { s.link with
      state := .guard, outbound := s.link.outbound + 1, x := s.outboundExchange k n } := by
  have hgood : (!n.bcast && !(s.station n.e.station).sound) = false := by
    cases hb : n.bcast with
    | true => rfl
    | false => rw [hs hb]; rfl
  have hbind : (s.slot k).bind (·.snap) = some n := by rw [hm]; exact hn
  simp only [State.takeOutbound, hbind, hgood, unsound, Bool.false_eq_true, if_false, State.checked_none]
  rfl

theorem State.outboundExchange_congr (h : t.stn = s.stn) (k : Fin 2) (n : Snapshot) :
    t.outboundExchange k n = s.outboundExchange k n := by
  rw [State.outboundExchange, State.outboundExchange, State.station_congr h]

theorem State.decision_of_line {op : BitVec 4} (hd : s.decides = true) (h : s.lineCommand = some op) :
    s.decision = s.takeDecision (lineExchange op) := by
  simp only [State.decision, hd, if_true, h]

theorem State.decision_of_traffic (hd : s.decides = true) (h : s.lineCommand = none) (hu : s.readyUnsound = false) :
    s.decision = s.chooseTraffic := by
  simp only [State.decision, hd, if_true, h, hu, unsound, Bool.false_eq_true, if_false, State.checked_none]

theorem State.lineCommand_of_waiting {c : Cmd} {rest : List Cmd} (hq : s.cmd.queue = c :: rest)
    (hw : s.cmd.head = .waiting) (ho : c.op = opLineBreak ∨ c.op = opSyncAll) : s.lineCommand = some c.op := by
  simp only [State.lineCommand, hq, hw, ho, and_self, if_true]

theorem State.lineCommand_of_empty (hq : s.cmd.queue = []) : s.lineCommand = none := by
  simp only [State.lineCommand, hq]

/-- Below BURST an eligible message goes out (R41 case 2). -/
theorem State.chooseTraffic_of_burst (hk : s.pickSlot s.eligible = some k) (h : s.link.outbound < s.line.burstEff) :
    s.chooseTraffic = s.takeOutbound k := by
  simp only [State.chooseTraffic, hk, h, if_true]

/-- At BURST it goes out where the scan yields nothing (R41 case 4). -/
theorem State.chooseTraffic_of_no_poll (hk : s.pickSlot s.eligible = some k)
    (h : s.line.burstEff ≤ s.link.outbound) (hp : s.pollScan = (t, none)) :
    s.chooseTraffic = t.unlessHalted fun u => u.takeOutbound k := by
  simp only [State.chooseTraffic, hk, Nat.not_lt.mpr h, if_false, hp]

theorem State.chooseTraffic_of_poll {a : LineAddr}
    (h : s.pickSlot s.eligible = none ∨ s.line.burstEff ≤ s.link.outbound) (hp : s.pollScan = (t, some a)) :
    s.chooseTraffic = t.takePoll a := by
  cases hk : s.pickSlot s.eligible with
  | none => simp only [State.chooseTraffic, hk, hp]
  | some k =>
    rw [hk] at h
    have hb : ¬s.link.outbound < s.line.burstEff := Nat.not_lt.mpr (h.resolve_left (fun e => nomatch e))
    simp only [State.chooseTraffic, hk, hb, if_false, hp]

theorem State.chooseTraffic_of_nothing (hk : s.pickSlot s.eligible = none) (hp : s.pollScan = (t, none)) :
    s.chooseTraffic = t := by
  simp only [State.chooseTraffic, hk, hp]

theorem exec_decision (s : State) : exec .decision s = .next s.decision := rfl

theorem State.chooseTraffic_outbound (hrun : s.halted = false) (hk : s.pickSlot s.eligible = some k)
    (hm : s.slot k = some m) (hn : m.snap = some n) (hs : n.bcast = false → (s.station n.e.station).sound = true)
    (h : s.link.outbound < s.line.burstEff ∨ s.canScan = false) :
    s.chooseTraffic = s.setLink { s.link with
      state := .guard, outbound := s.link.outbound + 1, x := s.outboundExchange k n } := by
  rw [← State.takeOutbound_of_sound hm hn hs]
  by_cases hb : s.link.outbound < s.line.burstEff
  · exact State.chooseTraffic_of_burst hk hb
  · rw [State.chooseTraffic_of_no_poll hk (Nat.not_lt.mp hb) (State.pollScan_of_not (h.resolve_left hb)),
      State.unlessHalted_of_not _ hrun]

theorem State.chooseTraffic_after_scan (hk : s.pickSlot s.eligible = some k) (hm : s.slot k = some m)
    (hn : m.snap = some n) (hs : n.bcast = false → (s.station n.e.station).sound = true)
    (hb : s.line.burstEff ≤ s.link.outbound) (hp : s.pollScan = (t, none)) (hh : t.halted = false) :
    s.chooseTraffic = t.setLink { t.link with
      state := .guard, outbound := s.link.outbound + 1, x := s.outboundExchange k n } := by
  obtain ⟨hstn, hslots, hout⟩ := State.pollScan_none_frame hp hh
  rw [State.chooseTraffic_of_no_poll hk hb hp, State.unlessHalted_of_not _ hh,
    State.takeOutbound_of_sound (by rw [State.slot, hslots]; exact hm) hn
      (fun h => by rw [State.station_congr hstn]; exact hs h), hout, State.outboundExchange_congr hstn]

/-- Settles O33: the cases of R41 in their order. -/
theorem decisionChooses : Obligations.DecisionChooses := by
  intro s hw hr he hs
  have hd : s.decides = true := by simp [State.decides, hw, hr, he, hs]
  refine ⟨fun c rest hq hh => ⟨fun ho => ?_, fun ho => ?_⟩, fun hq hu => ⟨fun k m n hk hm hn hsound => ?_, ?_, ?_⟩⟩
  · rw [exec_decision, State.decision_of_line hd (State.lineCommand_of_waiting hq hh (.inl ho)), ho]
    rfl
  · rw [exec_decision, State.decision_of_line hd (State.lineCommand_of_waiting hq hh (.inr ho)), ho]
    rfl
  · have htraffic := State.decision_of_traffic hd (State.lineCommand_of_empty hq) hu
    refine ⟨fun h => ?_, fun t hb hp hh => ?_⟩
    · rw [exec_decision, htraffic,
        State.chooseTraffic_outbound (State.halted_of_awake hw) hk hm hn hsound (h.imp_right State.canScan_eq_false)]
      rfl
    · rw [exec_decision, htraffic, State.chooseTraffic_after_scan hk hm hn hsound hb hp hh]
      rfl
  · intro h hpollen hlen hpause h0 h1 hsound hround
    rw [exec_decision, State.decision_of_traffic hd (State.lineCommand_of_empty hq) hu,
      State.chooseTraffic_of_poll h (State.pollScan_current hpollen hlen hpause h0 h1 hsound hround)]
    rfl
  · intro hk hpollen
    rw [exec_decision, State.decision_of_traffic hd (State.lineCommand_of_empty hq) hu,
      State.chooseTraffic_of_nothing hk (State.pollScan_of_pollen hpollen)]

/-! ## The start of staging -/

theorem State.freeSlot_eq (hk : s.slot k = none) (h : k = 1 → s.slot 0 ≠ none) : s.freeSlot = some k := by
  match k with
  | 0 => simp [State.freeSlot, hk]
  | 1 =>
    obtain ⟨m, hm⟩ := Option.ne_none_iff_exists'.mp (h rfl)
    simp [State.freeSlot, hk, hm]

/-- The lowest ring that can be staged from (R103). -/
theorem State.find_stageable {n : Fin 4} (hn : s.stageable n = true)
    (h : ∀ j : Fin 4, j < n → s.stageable j = false) : rings4.find? s.stageable = some n := by
  match n with
  | 0 => simp [rings4, hn]
  | 1 => simp [rings4, hn, h 0 (by decide)]
  | 2 => simp [rings4, hn, h 0 (by decide), h 1 (by decide)]
  | 3 => simp [rings4, hn, h 0 (by decide), h 1 (by decide), h 2 (by decide)]

theorem State.stagingStart_of_free {n : Fin 4} (hh : s.held = false) (hp : s.glb.power = .run)
    (hs : s.stagingSlot = none) (hk : s.freeSlot = some k) (hn : rings4.find? s.stageable = some n) :
    s.stagingStart = s.setSlot k (some
      { ring := n, index := (s.ring n).cons, txn := itemAddr (s.ring n).base (s.ring n).cons }) := by
  have hgo : (s.held || s.glb.power != .run || s.stagingSlot.isSome) = false := by simp [hh, hp, hs]
  simp only [State.stagingStart, hgo, Bool.false_eq_true, if_false, hk, hn]

/-- Settles O35: the lowest ring that can be staged from, in the lowest free slot. -/
theorem stagingBegins : Obligations.StagingBegins := by
  intro s k n hh hp hs hk h0 hn hj
  exact congrArg Host.Outcome.next
    (State.stagingStart_of_free hh hp hs (State.freeSlot_eq hk h0) (State.find_stageable hn hj))

/-! ## The start of a transmission -/

/-- A frame that is no DATA carries neither a port nor a payload (R18). -/
theorem frameChars_of_not_data {q : Kind} (h : q ≠ .data) (dest src : LineAddr) (b : Bool) (d : BitVec 3)
    (port : BitVec 4) (payload : List Byte) :
    frameChars dest src q b d port payload = frameChars dest src q b d 0 [] := by
  simp only [frameChars, frameBody, h, if_false]

/-- FRX as the rise of LDE leaves it: a frame in progress is truncated (R29). -/
def State.cleared (s : State) : State := if s.frx.state = .hunt then s else s.frxTruncate

/-- In Guard no window is open, so a truncated frame touches FRX, the gap timer and GAP alone. -/
theorem State.cleared_facts (hs : s.link.state = .guard) :
    s.cleared.link = s.link ∧ s.cleared.slots = s.slots ∧ s.cleared.stn = s.stn ∧ s.cleared.listen = s.listen ∧
      s.cleared.line = s.line ∧ s.cleared.frx.state = .hunt ∧
      s.cleared.counters.gap =
        (if s.frx.counted && s.frx.state.collecting then satInc s.counters.gap else s.counters.gap) := by
  unfold State.cleared
  split
  next h => exact ⟨rfl, rfl, rfl, rfl, rfl, h, by rw [h]; simp [FrxState.collecting]⟩
  next h =>
    have hdrop (v : State) (hl : v.link = s.link) : v.frxDrop = v.frxHunt :=
      State.frxDrop_of_not_awaiting (by rw [State.awaitingReply, hl, hs]; rfl)
    unfold State.frxTruncate
    split
    · rw [hdrop (s.bump .gap) rfl]
      exact ⟨rfl, rfl, rfl, rfl, rfl, rfl, rfl⟩
    · rw [hdrop s rfl]
      exact ⟨rfl, rfl, rfl, rfl, rfl, rfl, rfl⟩

theorem State.charsToSend_congr (hl : t.link = s.link) (hs : t.slots = s.slots) (hn : t.stn = s.stn)
    (hp : t.listen = s.listen) : t.charsToSend = s.charsToSend ∧ t.seqToSend = s.seqToSend := by
  have hseq : t.seqToSend = s.seqToSend := by
    simp only [State.seqToSend, hl, State.station, State.lsn, hn, hp]
  have hslot : t.slot = s.slot := funext fun k => by rw [State.slot, State.slot, hs]
  refine ⟨?_, hseq⟩
  simp only [State.charsToSend, hseq, State.servedMessage, State.sourceToSend, hl, State.lsn, hp, hslot]

/-- The message for which LDE rises is attempted; nothing else changes (R35). -/
theorem State.markAttempted_facts (s : State) :
    (∃ v, s.markAttempted = s.setSlots v) ∧ ∀ (k : Fin 2) (m : Message), s.link.x.slot = some k →
      s.slot k = some m → s.markAttempted.slot k = some { m with attempted := true } := by
  refine ⟨?_, fun k m hx hm => ?_⟩
  · unfold State.markAttempted
    split
    · exact ⟨s.slots, rfl⟩
    split
    · exact ⟨s.slots, rfl⟩
    · exact ⟨_, rfl⟩
  · simp only [State.markAttempted, hx, hm]
    exact State.slot_setSlot_self s k _

theorem State.transmit_break (hu : s.exchangeUnsound = none) (hk : s.link.x.kind = .brk) (hs : s.link.state = .guard) :
    s.transmit = ((s.cleared.setTx { phase := .brk }).setRx s.cleared.rx.sending).setLink
      { s.cleared.link with state := .breaking } := by
  have hkind : s.cleared.link.x.kind = .brk := by rw [(State.cleared_facts hs).1]; exact hk
  rw [State.transmit, hu]
  exact if_pos hkind

/-- The state in which the frame's first start bit goes out, before its message is marked. -/
def State.frameBegun (s : State) : State :=
  ((s.setTx { phase := .frame, chars := s.charsToSend, stop2 := s.line.stop2 }).setRx s.rx.sending).setLink
    { s.link with
      state := .sending, x := { s.link.x with seq := s.seqToSend, beganSilent := s.beginsSilent } }

theorem State.transmit_frame (hu : s.exchangeUnsound = none) (hk : s.link.x.kind ≠ .brk) (hs : s.link.state = .guard) :
    s.transmit = s.cleared.frameBegun.markAttempted := by
  have hkind : s.cleared.link.x.kind ≠ .brk := by rw [(State.cleared_facts hs).1]; exact hk
  rw [State.transmit, hu]
  exact if_neg hkind

/-- What a frame's start sends and marks (R13, R24, R35). -/
theorem State.transmit_frame_facts (hu : s.exchangeUnsound = none) (hk : s.link.x.kind ≠ .brk)
    (hs : s.link.state = .guard) :
    let u := s.transmit
    u.tx = { phase := .frame, chars := s.charsToSend, stop2 := s.line.stop2 } ∧ u.link.state = .sending ∧
      u.rx.idle = none ∧ u.frx = s.cleared.frx ∧ u.counters = s.cleared.counters ∧
      ∀ (k : Fin 2) (m : Message), s.link.x.slot = some k → s.slot k = some m →
        u.slot k = some { m with attempted := true } := by
  obtain ⟨hlink, hslots, hstn, hlisten, hline, -, -⟩ := State.cleared_facts hs
  obtain ⟨hchars, -⟩ := State.charsToSend_congr hlink hslots hstn hlisten
  obtain ⟨⟨v, hv⟩, hmark⟩ := s.cleared.frameBegun.markAttempted_facts
  rw [State.transmit_frame hu hk hs, ← hchars, ← hline]
  refine ⟨by rw [hv]; rfl, by rw [hv]; rfl, by rw [hv]; rfl, by rw [hv]; rfl, by rw [hv]; rfl, fun k m hx hm =>
    hmark k m ?_ ?_⟩
  · change s.cleared.link.x.slot = some k
    rw [hlink]
    exact hx
  · change s.cleared.slot k = some m
    rw [State.slot, hslots]
    exact hm

theorem State.transmit_break_facts (hu : s.exchangeUnsound = none) (hk : s.link.x.kind = .brk)
    (hs : s.link.state = .guard) :
    let u := s.transmit
    u.tx = { phase := .brk } ∧ u.link.state = .breaking ∧ u.rx.idle = none ∧ u.frx = s.cleared.frx ∧
      u.counters = s.cleared.counters := by
  rw [State.transmit_break hu hk hs]
  exact ⟨rfl, rfl, rfl, rfl, rfl⟩

/-- A transmission start whatever it sends. -/
theorem State.transmit_facts (hu : s.exchangeUnsound = none) (hs : s.link.state = .guard) :
    let u := s.transmit
    u.lde = true ∧ u.rx.idle = none ∧ u.frx.state = .hunt ∧
      u.counters.gap =
        (if s.frx.counted && s.frx.state.collecting then satInc s.counters.gap else s.counters.gap) := by
  obtain ⟨-, -, -, -, -, hfrx, hgap⟩ := State.cleared_facts hs
  intro u
  have hu' : u = s.transmit := rfl
  clear_value u
  by_cases hk : s.link.x.kind = .brk
  · obtain ⟨htx, -, hidle, hf, hc⟩ := State.transmit_break_facts hu hk hs
    rw [← hu'] at htx hidle hf hc
    exact ⟨by rw [State.lde, htx]; rfl, hidle, by rw [hf]; exact hfrx, by rw [hc]; exact hgap⟩
  · obtain ⟨htx, -, hidle, hf, hc, -⟩ := State.transmit_frame_facts hu hk hs
    rw [← hu'] at htx hidle hf hc
    exact ⟨by rw [State.lde, htx]; rfl, hidle, by rw [hf]; exact hfrx, by rw [hc]; exact hgap⟩

theorem State.servedMessage_of (hx : s.link.x.slot = some k) (hm : s.slot k = some m) : s.servedMessage = some m := by
  rw [State.servedMessage, hx]
  exact hm

/-- The characters of a DATA frame: port and payload of the message, the sequence bit as it stands (R38, R47). -/
theorem State.charsToSend_data (ho : s.link.x.out.kind = .data) (hx : s.link.x.slot = some k)
    (hm : s.slot k = some m) (hn : m.snap = some n) :
    s.charsToSend = frameChars s.link.x.dest s.sourceToSend .data s.seqToSend s.link.x.out.detail n.e.port
      m.payload := by
  rw [State.charsToSend, State.servedMessage_of hx hm, ho]
  have hport : ((some m).bind fun m => m.snap.map (·.e.port)).getD 0 = n.e.port := by
    rw [Option.bind_some, hn]
    rfl
  rw [hport]
  rfl

/-- The characters of any other frame (R18, R24). -/
theorem State.charsToSend_other (ho : s.link.x.out.kind ≠ .data) :
    s.charsToSend = frameChars s.link.x.dest s.sourceToSend s.link.x.out.kind s.link.x.out.seq s.link.x.out.detail 0
      [] := by
  have hseq : s.seqToSend = s.link.x.out.seq := if_neg ho
  rw [State.charsToSend, frameChars_of_not_data ho, hseq]

theorem State.addresses_of_member (h : s.link.x.kind = .member) :
    s.link.x.dest = 0 ∧ s.sourceToSend = (s.lsn s.link.x.lslot).address := ⟨if_pos h, if_pos h⟩

theorem State.addresses_of_anchor (h : s.link.x.kind ≠ .member) :
    s.link.x.dest = s.link.x.station ∧ s.sourceToSend = 0 := ⟨if_neg h, if_neg h⟩

theorem State.seqToSend_outbound (ho : s.link.x.out.kind = .data) (hk : s.link.x.kind = .outbound) :
    s.seqToSend = (s.station s.link.x.station).outSeq := by
  simp only [State.seqToSend, ho, if_true, hk]

theorem State.seqToSend_bcast (ho : s.link.x.out.kind = .data) (hk : s.link.x.kind = .bcast) :
    s.seqToSend = false := by
  simp only [State.seqToSend, ho, if_true, hk]

theorem State.seqToSend_member (ho : s.link.x.out.kind = .data) (hk : s.link.x.kind = .member) :
    s.seqToSend = (s.lsn s.link.x.lslot).outSeq := by
  simp only [State.seqToSend, ho, if_true, hk]

/-- Settles O28: what a transmission start sends and marks, for every exchange. -/
theorem transmissionStarts : Obligations.TransmissionStarts := by
  intro s hw hcan hu
  have hs : s.due.link.state = .guard := ((State.canTransmit_iff s.due).mp hcan).1
  have hstart : exec .transmissionStart s = .next s.due.transmit.settle := by
    have h : exec .transmissionStart s = .next s.due.transmissionStarts.settle :=
      congrArg _ (State.event_of_awake _ hw)
    rw [h, State.transmissionStarts, if_pos hcan]
  obtain ⟨hlde, hidle, hfrx, hgap⟩ := State.transmit_facts hu hs
  have hframe := fun hk => State.transmit_frame_facts (s := s.due) hu hk hs
  refine ⟨_, hstart, hlde, hidle, hfrx, hgap, fun hk => ?_, fun hk => ?_, fun k m n hk ho hx hm hn => ?_,
    fun k m n hk ho hx hm hn => ?_, fun k m n hk ho hx hm hn => ?_, fun hk ho => ?_, fun k m hk hx hm => ?_⟩
  · obtain ⟨htx, hstate, -⟩ := State.transmit_break_facts hu hk hs
    exact ⟨htx, hstate⟩
  · obtain ⟨htx, hstate, -⟩ := hframe hk
    rw [htx]
    exact ⟨rfl, hstate, rfl⟩
  · have hne : s.due.link.x.kind ≠ .member := by rw [hk]; exact fun e => nomatch e
    obtain ⟨htx, -, -, -, -, hmark⟩ := hframe (by rw [hk]; exact fun e => nomatch e)
    obtain ⟨hdest, hsrc⟩ := State.addresses_of_anchor hne
    rw [htx, State.charsToSend_data ho hx hm hn, hdest, hsrc, State.seqToSend_outbound ho hk]
    exact ⟨hmark k m hx hm, rfl⟩
  · have hne : s.due.link.x.kind ≠ .member := by rw [hk]; exact fun e => nomatch e
    obtain ⟨htx, -, -, -, -, hmark⟩ := hframe (by rw [hk]; exact fun e => nomatch e)
    obtain ⟨hdest, hsrc⟩ := State.addresses_of_anchor hne
    rw [htx, State.charsToSend_data ho hx hm hn, hdest, hsrc, State.seqToSend_bcast ho hk]
    exact ⟨hmark k m hx hm, rfl⟩
  · obtain ⟨htx, -, -, -, -, hmark⟩ := hframe (by rw [hk]; exact fun e => nomatch e)
    obtain ⟨hdest, hsrc⟩ := State.addresses_of_member hk
    rw [htx, State.charsToSend_data ho hx hm hn, hdest, hsrc, State.seqToSend_member ho hk]
    exact ⟨hmark k m hx hm, rfl⟩
  · obtain ⟨htx, -⟩ := hframe hk
    rw [htx, State.charsToSend_other ho]
    by_cases hm : s.due.link.x.kind = .member
    · obtain ⟨hdest, hsrc⟩ := State.addresses_of_member hm
      rw [if_pos hm, hdest, hsrc]
    · obtain ⟨hdest, hsrc⟩ := State.addresses_of_anchor hm
      rw [if_neg hm, hdest, hsrc]
  · obtain ⟨-, -, -, -, -, hmark⟩ := hframe (by rw [hk]; exact fun e => nomatch e)
    exact hmark k m hx hm

end Sys2Proof.Machine
end

section
/-! PROOFS. The completions of staging: the descriptor read, the checks of the working copy, the mark and the payload reads
(R81 to R88, R92, R104 to R106). -/

namespace Sys2Proof.Machine

set_option Elab.async false

variable {s t u : State} {k : Fin 2} {m : Message}

/-! ## Staging faults -/

/-- The fault record of a staging fault (R106). -/
def Message.stagingRecord (m : Message) (kind : FaultKind) (p : FaultPhase) (c : Channel) (a : Word) : FaultRecord :=
  { source := .tx m.ring, kind := kind, phase := p, index := m.index, chan := c, addr := a, ioc := m.ioc,
    cookie := m.cookie }

/-- A staging fault frees the slot, puts the ring in Faulted and, where no other fault is outstanding, enters the record. -/
theorem State.stagingFault_facts (kind : FaultKind) (p : FaultPhase) (c : Channel) (a : Word) (h : s.flt = {}) :
    let u := s.stagingFault k m kind p c a
    u.slot k = none ∧ u.ring m.ring = { s.ring m.ring with state := .faulted } ∧
      u.flt.record = some (m.stagingRecord kind p c a) ∧
      u.glb.intstat = s.glb.intstat ||| IrqCause.fault.mask := by
  have hpost : s.stagingFault k m kind p c a = _ :=
    State.post_of_empty (s := (s.setSlot k none).setRingState m.ring .faulted) (m.stagingRecord kind p c a) h
  have hslot := s.slot_setSlot_self k none
  have hring := (s.setSlot k none).ring_setRingState m.ring .faulted
  rw [hpost]
  exact ⟨hslot, hring, rfl, rfl⟩

/-! ## The checks of the working copy (R84 to R88) -/

/-- A byte whose bit 0 is set is its own image with Ref (R87). -/
theorem or_one_of_set {b : Byte} (h : b.getLsbD 0 = true) : b ||| 1#8 = b := by
  revert b
  decide

theorem or_one_or_one (b : Byte) : b ||| 1#8 ||| 1#8 = b ||| 1#8 := by
  rw [BitVec.or_assoc, BitVec.or_self]

theorem State.beginLoad_of_empty (h : m.length = 0) : s.beginLoad k m = s.setSlot k (some m.ready) := if_pos h

theorem State.beginLoad_of_payload (h : m.length ≠ 0) :
    s.beginLoad k m = s.setSlot k (some { m with phase := .load, txn := m.buffer, payload := [] }) := if_neg h

theorem State.halted_beginLoad (s : State) (k : Fin 2) (m : Message) : (s.beginLoad k m).halted = s.halted := by
  unfold State.beginLoad
  split <;> rfl

theorem State.halted_beginMark (s : State) (k : Fin 2) (m : Message) (w : Working) :
    (s.beginMark k m w).halted = s.halted := by
  unfold State.beginMark
  split
  · exact State.halted_beginLoad s k _
  · rfl

theorem State.halted_checkCopy (s : State) (k : Fin 2) (m : Message) (e : MapEntry) (a : Word) (b : Bool) :
    (s.checkCopy k m e a b).halted = s.halted := by
  unfold State.checkCopy
  split
  · exact s.halted_stagingFault ..
  split
  · exact s.halted_stagingFault ..
  split
  · exact s.halted_stagingFault ..
  · exact s.halted_beginMark ..

/-- What becomes of a staging at each failed check. -/
def State.CheckFails (s u : State) (k : Fin 2) (m : Message) (kind : FaultKind) : Prop :=
  u.slot k = none ∧ u.ring m.ring = { s.ring m.ring with state := .faulted } ∧
    u.flt.record = some (m.stagingRecord kind .translate m.chan 0)

theorem State.checkFails_stagingFault (kind : FaultKind) (h : s.flt = {}) :
    s.CheckFails (s.stagingFault k m kind .translate m.chan 0) k m kind := by
  obtain ⟨hslot, hring, hrecord, -⟩ := State.stagingFault_facts (k := k) (m := m) kind .translate m.chan 0 h
  exact ⟨hslot, hring, hrecord⟩

section
variable {e : MapEntry} {a : Word} {b : Bool} {p : Fin 4}

theorem State.checkCopy_of_station (h : s.stationStep e.station = none) :
    s.checkCopy k m e a b = s.stagingFault k m .mapStation .translate m.chan 0 := by
  simp only [State.checkCopy, h]

theorem State.checkCopy_of_denied (h : s.stationStep e.station = some p) (hp : e.p = false) :
    s.checkCopy k m e a b = s.stagingFault k m .mapDenied .translate m.chan 0 := by
  simp only [State.checkCopy, h, hp, Bool.not_false, if_true]

theorem State.checkCopy_of_length (h : s.stationStep e.station = some p) (hp : e.p = true)
    (hl : (maxLenEff e.maxLen).toNat < m.length.toNat) :
    s.checkCopy k m e a b = s.stagingFault k m .mapLength .translate m.chan 0 := by
  simp only [State.checkCopy, h, hp, Bool.not_true, Bool.false_eq_true, if_false, hl, if_true]

theorem State.checkCopy_of_passed (h : s.stationStep e.station = some p) (hp : e.p = true)
    (hl : m.length.toNat ≤ (maxLenEff e.maxLen).toNat) :
    s.checkCopy k m e a b = s.beginMark k m { e := e, addr := a, persona := p, cached := b } := by
  simp only [State.checkCopy, h, hp, Bool.not_true, Bool.false_eq_true, if_false, Nat.not_lt.mpr hl]
end

/-- MARK with Ref 1 already ends at once (R87). -/
theorem State.beginMark_of_ref {w : Working} (h : w.e.byte7.getLsbD 0 = true) :
    s.beginMark k m w = s.beginLoad k { m with work := some w, snap := some (s.snapshot m w) } := if_pos h

theorem State.beginMark_of_no_ref {w : Working} (h : w.e.byte7.getLsbD 0 = false) :
    s.beginMark k m w = s.setSlot k (some { m with work := some w, phase := .mark, txn := w.addr + 7 }) :=
  if_neg (ne_true_of_eq_false h)

/-- The Permission and Length steps and the begin of MARK (R86 to R88). -/
theorem State.copyMarked_checkCopy {e : MapEntry} {a : Word} {b : Bool} {p : Fin 4} (hf : s.flt = {})
    (h : s.stationStep e.station = some p) :
    s.CopyMarked (s.checkCopy k m e a b) k m { e := e, addr := a, persona := p, cached := b }
      (s.CheckFails (s.checkCopy k m e a b) k m) := by
  refine ⟨fun hp => ?_, fun hp hl => ?_, fun hp hl => ?_⟩
  · rw [State.checkCopy_of_denied h hp]
    exact State.checkFails_stagingFault .mapDenied hf
  · rw [State.checkCopy_of_length h hp hl]
    exact State.checkFails_stagingFault .mapLength hf
  · rw [State.checkCopy_of_passed h hp hl]
    refine ⟨fun hr => ?_, fun hr => ?_⟩
    · rw [State.beginMark_of_no_ref hr]
      exact s.slot_setSlot_self k _
    · rw [State.beginMark_of_ref hr]
      refine ⟨s.snapshot m { e := e, addr := a, persona := p, cached := b }, rfl, rfl, rfl, rfl, rfl, or_one_of_set hr,
        rfl, rfl, rfl, rfl, rfl, fun hn => ?_, fun h0 => ?_⟩
      · rw [State.beginLoad_of_payload (by exact hn)]
        exact s.slot_setSlot_self k _
      · rw [State.beginLoad_of_empty (by exact h0)]
        exact s.slot_setSlot_self k _

/-- The checks of a working copy in either role (R84 to R88). -/
theorem State.copyChecked_checkCopy (k : Fin 2) (m : Message) (e : MapEntry) (a : Word) (b : Bool) (hf : s.flt = {}) :
    s.CopyChecked (s.checkCopy k m e a b) k m e a b := by
  refine ⟨fun hr => ⟨fun h0 => ?_, fun h0 => ?_⟩, fun hr => ⟨fun hno => ?_, fun p hp => ?_⟩⟩
  · have hstep : s.stationStep e.station = none := by simp [State.stationStep, hr, h0]
    rw [State.checkCopy_of_station hstep]
    exact State.checkFails_stagingFault .mapStation hf
  · have hstep : s.stationStep e.station = some 0 := by
      have h0 : ¬e.station = 0#7 := h0
      simp [State.stationStep, hr, h0]
    exact State.copyMarked_checkCopy hf hstep
  · have hstep : s.stationStep e.station = none := by
      simp only [State.stationStep, hr]
      cases ho : s.owner e.station with
      | none => rfl
      | some p => exact absurd ((s.owner_iff p e.station).mp ho) (hno p)
    rw [State.checkCopy_of_station hstep]
    exact State.checkFails_stagingFault .mapStation hf
  · have hstep : s.stationStep e.station = some p := by
      simp only [State.stationStep, hr]
      exact (s.owner_iff p e.station).mpr hp
    exact State.copyMarked_checkCopy hf hstep

/-! ## The completion rows of staging -/

section
variable {r : DescRead}

theorem exec_fetchComplete (hw : s.due.awake = true) (h : .fetch ∈ s.due.inFlight)
    (hh : (s.due.fetchDone r).halted = false) :
    exec (.fetchComplete .live r) s = .next (s.due.fetchDone r).settle :=
  State.dmaEvent_next (f := fun s => s.fetchDone r) h hw hh

theorem exec_walkComplete {r : EntryRead} (hw : s.due.awake = true) (h : .walk ∈ s.due.inFlight)
    (hh : (s.due.walkDone r).halted = false) :
    exec (.walkComplete .live r) s = .next (s.due.walkDone r).settle :=
  State.dmaEvent_next (f := fun s => s.walkDone r) h hw hh

theorem exec_markWriteComplete {r : WriteResult} (hw : s.due.awake = true) (h : .mark ∈ s.due.inFlight)
    (hh : (s.due.markDone r).halted = false) :
    exec (.markWriteComplete .live r) s = .next (s.due.markDone r).settle :=
  State.dmaEvent_next (f := fun s => s.markDone r) h hw hh

theorem exec_payloadReadComplete {r : PayloadRead} (hw : s.due.awake = true) (h : .payload ∈ s.due.inFlight)
    (hh : (s.due.payloadDone r).halted = false) :
    exec (.payloadReadComplete .live r) s = .next (s.due.payloadDone r).settle :=
  State.dmaEvent_next (f := fun s => s.payloadDone r) h hw hh
end

/-! ## The mark and the payload reads (O38) -/

theorem State.markDone_error (h : s.StagedIn k m .mark) :
    s.markDone .error = s.stagingFault k m .markBus .mark m.chan m.txn := by
  unfold State.markDone
  exact State.withPhase_of_stagedIn _ h

/-- The cache as a successful mark leaves it. -/
def State.markedMap (s : State) (m : Message) (w : Working) : State :=
  if w.cached then s.setMap (s.map.update m.chan MapEntry.withRef) else s

theorem State.markedMap_frame (s : State) (m : Message) (w : Working) :
    (s.markedMap m w).halted = s.halted ∧ (s.markedMap m w).line = s.line := by
  unfold State.markedMap
  split <;> exact ⟨rfl, rfl⟩

theorem State.markDone_ok {w : Working} (h : s.StagedIn k m .mark) (hw : m.work = some w) :
    s.markDone .ok = (s.markedMap m w).markEnds k m { w with e := w.e.withRef } := by
  unfold State.markDone
  rw [State.withPhase_of_stagedIn _ h]
  simp only [hw]
  rfl

theorem State.payloadDone_error (h : s.StagedIn k m .load) :
    s.payloadDone .error = s.stagingFault k m .payloadBus .load m.chan m.txn := by
  unfold State.payloadDone
  exact State.withPhase_of_stagedIn _ h

/-- The last payload read makes the message Ready (R105). -/
theorem State.payloadDone_last {bytes : List Byte} (h : s.StagedIn k m .load)
    (hl : m.payload.length + bytes.length = m.length.toNat) :
    s.payloadDone (.data bytes) = s.setSlot k (some { m with payload := m.payload ++ bytes }.ready) := by
  have hlen : (m.payload ++ bytes).length = m.length.toNat := by rw [List.length_append]; exact hl
  have htake : (m.payload ++ bytes).take m.length.toNat = m.payload ++ bytes :=
    List.take_of_length_le (Nat.le_of_eq hlen)
  unfold State.payloadDone
  rw [State.withPhase_of_stagedIn _ h]
  simp only [htake, hlen, if_true]

/-- Settles O38: the mark and the payload reads, and their faults. -/
theorem markAndLoadComplete : Obligations.MarkAndLoadComplete := by
  intro s k m hw hf
  have hrun := State.halted_of_awake hw
  refine ⟨fun hin hst => ⟨?_, fun w hwork hlen => ?_⟩, fun hin hst => ⟨?_, fun bytes hlen => ?_⟩⟩
  · have hdone := State.markDone_error hst
    obtain ⟨hslot, hring, hrecord, -⟩ := State.stagingFault_facts (k := k) (m := m) .markBus .mark m.chan m.txn hf
    refine ⟨_, exec_markWriteComplete hw hin (by rw [hdone, State.halted_stagingFault]; exact hrun), ?_⟩
    rw [hdone]
    exact ⟨hslot, hring, s.due.stagingFault_map .., hrecord⟩
  · have hdone : s.due.markDone .ok = _ := (State.markDone_ok hst hwork).trans
      (State.beginLoad_of_payload (s := s.due.markedMap m w) (k := k) (by exact hlen))
    refine ⟨_, (s.due.markedMap m w).snapshot m { w with e := w.e.withRef }, exec_markWriteComplete hw hin ?_, ?_, rfl,
      rfl, ?_, rfl, rfl, rfl⟩
    · rw [hdone]
      exact (s.due.markedMap_frame m w).1.trans hrun
    · rw [hdone]
      exact State.slot_setSlot_self _ k _
    · exact or_one_or_one w.e.byte7
  · have hdone := State.payloadDone_error hst
    obtain ⟨hslot, hring, hrecord, -⟩ := State.stagingFault_facts (k := k) (m := m) .payloadBus .load m.chan m.txn hf
    refine ⟨_, exec_payloadReadComplete hw hin (by rw [hdone, State.halted_stagingFault]; exact hrun), ?_⟩
    rw [hdone]
    exact ⟨hslot, hring, hrecord⟩
  · have hdone := State.payloadDone_last hst hlen
    refine ⟨_, exec_payloadReadComplete hw hin (by rw [hdone]; exact hrun), ?_⟩
    rw [hdone]
    exact ⟨State.slot_setSlot_self _ k _, rfl⟩

/-! ## The descriptor read -/

/-- The message with the fields of its descriptor (R102). -/
def Message.described (m : Message) (w0 w1 w2 : Word) : Message :=
  { m with
    chan := descChannel w0, length := descLength w0, ioc := descIoc w0, quiet := descQuiet w0, buffer := w1,
    cookie := w2 }

section
variable {w0 w1 w2 w3 : Word}

theorem State.fetchDone_of_format (h : s.StagedIn k m .fetch) (hf : txFormatError w0 w3 = true) :
    s.fetchDone (.data w0 w1 w2 w3) =
      s.stagingFault k (m.described w0 w1 w2) .descFormat .fetch (descChannel w0) m.txn := by
  unfold State.fetchDone
  rw [State.withPhase_of_stagedIn _ h]
  exact if_pos hf

theorem State.fetchDone_of_good (h : s.StagedIn k m .fetch) (hf : txFormatError w0 w3 = false) :
    s.fetchDone (.data w0 w1 w2 w3) = s.translate k (m.described w0 w1 w2) := by
  unfold State.fetchDone
  rw [State.withPhase_of_stagedIn _ h]
  exact if_neg (ne_true_of_eq_false hf)
end

theorem State.translate_of_range (h : s.map.len.toNat ≤ m.chan.toNat) :
    s.translate k m = s.stagingFault k m .range .translate m.chan 0 := if_pos h

theorem State.translate_of_miss (h : m.chan.toNat < s.map.len.toNat) (hf : s.map.find m.chan = none) :
    s.translate k m = s.beginWalk k m := by
  simp only [State.translate, Nat.not_le.mpr h, if_false, hf]

theorem State.translate_of_hit {e : CacheEntry} (h : m.chan.toNat < s.map.len.toNat) (hf : s.map.find m.chan = some e)
    (hs : e.sound = true) :
    s.translate k m = (s.setMap (s.map.toHead e)).checkCopy k m e.e e.addr true := by
  simp only [State.translate, Nat.not_le.mpr h, if_false, hf, hs, if_true]

theorem State.translate_of_struck {e : CacheEntry} (h : m.chan.toNat < s.map.len.toNat)
    (hf : s.map.find m.chan = some e) (hs : e.sound = false) :
    s.translate k m = (s.cacheParity .translate m.index m.chan).unlessHalted fun s => s.beginWalk k m := by
  simp only [State.translate, Nat.not_le.mpr h, if_false, hf, hs, Bool.false_eq_true]

/-- The channel of the entry that is found (R81). -/
theorem ChannelMap.chan_of_find {p : ChannelMap} {c : Channel} {e : CacheEntry} (h : p.find c = some e) : e.chan = c := by
  simpa using List.find?_some h

/-! ## Unsound cache parity (R92) -/

/-- The cause of the Halt where cache parity is found unsound and no entry can be removed (R92). -/
def State.cacheCause (s : State) : HaltCause := if s.glb.ichk = true then .doubleIntegrity else .cacheParity

theorem State.cacheParity_halts (p : FaultPhase) (i : Byte) (c : Channel)
    (h : s.glb.ichk = false ∨ s.flt.outstanding .integ = true) : s.cacheParity p i c = s.enterHalt s.cacheCause := by
  cases hi : s.glb.ichk with
  | false => simp [State.cacheParity, State.cacheCause, hi]
  | true =>
    have ho : s.flt.outstanding .integ = true := h.resolve_left (by rw [hi]; exact fun e => nomatch e)
    simp [State.cacheParity, State.cacheCause, hi, ho]

/-- The fault record of an entry found unsound (R92). -/
def cacheRecord (p : FaultPhase) (i : Byte) (c : Channel) : FaultRecord :=
  { source := .integ, kind := .cacheParity, phase := p, index := i, chan := c, addr := 0 }

/-- The state after an unsound entry is removed and posted, no other fault outstanding (R92). -/
theorem State.cacheParity_posts (p : FaultPhase) (i : Byte) (c : Channel) (hi : s.glb.ichk = true) (hf : s.flt = {}) :
    s.cacheParity p i c = ((s.setMap (s.map.remove c)).setFlt { record := some (cacheRecord p i c) }).setGlb
      { s.glb with intstat := s.glb.intstat ||| IrqCause.fault.mask } := by
  have ho : s.flt.outstanding .integ = false := by rw [hf]; rfl
  have hbody : s.cacheParity p i c = (s.setMap (s.map.remove c)).post (cacheRecord p i c) := by
    simp only [State.cacheParity, hi, ho, Bool.not_true, Bool.false_eq_true, if_false]
    rfl
  exact hbody.trans (State.post_of_empty (s := s.setMap (s.map.remove c)) _ hf)

/-- A completion that halts the controller takes nothing but its transaction off the bus (R161, R164). -/
theorem State.dmaEvent_halts {d : DmaKind} {f : State → State} {c : HaltCause} (h : d ∈ s.due.inFlight)
    (hw : s.due.awake = true) (hf : f s.due = s.due.enterHalt c) :
    ∃ b : Bus, s.dmaEvent .live d f = (s.due.enterHalt c).setBus b := by
  have hh := s.due.halted_enterHalt c
  refine ⟨{ (s.due.enterHalt c).bus with abandoned := (s.due.enterHalt c).bus.abandoned.erase d }, ?_⟩
  rw [State.dmaEvent_live f h hw, hf, State.finished_of_halted d hh]
  exact if_pos hh

theorem State.enterHalt_frame (c : HaltCause) (h : s.halted = false) :
    (s.enterHalt c).glb.power = .halt ∧ (s.enterHalt c).glb.haltCause = c ∧ (s.enterHalt c).map = s.map ∧
      (s.enterHalt c).slots = s.slots ∧ (s.enterHalt c).flt = s.flt ∧ (s.enterHalt c).cq = s.cq := by
  rw [State.enterHalt_of_running c h]
  exact ⟨rfl, rfl, rfl, rfl, rfl, rfl⟩

theorem State.beginWalk_facts (s : State) (k : Fin 2) (m : Message) :
    (s.beginWalk k m).slot k = some { m with phase := .translate, txn := s.map.entryAddr m.chan } ∧
      (s.beginWalk k m).map = { s.map with
        walk := some { chan := m.chan, addr := s.map.entryAddr m.chan, permission := true } } ∧
      (s.beginWalk k m).rings = s.rings ∧ (s.beginWalk k m).flt = s.flt ∧ (s.beginWalk k m).glb = s.glb :=
  ⟨State.slot_setSlot_self _ k _, rfl, rfl, rfl, rfl⟩

theorem State.halted_beginWalk (s : State) (k : Fin 2) (m : Message) : (s.beginWalk k m).halted = s.halted := rfl

/-- A struck entry that is removed is replaced by a walk (R92). -/
theorem State.translate_of_removed {e : CacheEntry} (h : m.chan.toNat < s.map.len.toNat)
    (hf : s.map.find m.chan = some e) (hs : e.sound = false) (hi : s.glb.ichk = true) (hflt : s.flt = {})
    (hh : s.halted = false) :
    let u := s.translate k m
    u.slot k = some { m with phase := .translate, txn := s.map.entryAddr m.chan } ∧
      u.map = { s.map with
        cache := s.map.cache.filter (fun x => x.chan != m.chan),
        walk := some { chan := m.chan, addr := s.map.entryAddr m.chan, permission := true } } ∧
      u.flt.record = some (cacheRecord .translate m.index m.chan) ∧
      u.glb.intstat = s.glb.intstat ||| IrqCause.fault.mask ∧ u.rings = s.rings ∧ u.halted = false := by
  have hpost := State.cacheParity_posts .translate m.index m.chan hi hflt
  have hfacts : (s.cacheParity .translate m.index m.chan).halted = false ∧
      (s.cacheParity .translate m.index m.chan).map = s.map.remove m.chan ∧
      (s.cacheParity .translate m.index m.chan).flt.record = some (cacheRecord .translate m.index m.chan) ∧
      (s.cacheParity .translate m.index m.chan).glb.intstat = s.glb.intstat ||| IrqCause.fault.mask ∧
      (s.cacheParity .translate m.index m.chan).rings = s.rings := by
    rw [hpost]
    exact ⟨hh, rfl, rfl, rfl, rfl⟩
  have htranslate : s.translate k m = (s.cacheParity .translate m.index m.chan).beginWalk k m :=
    (State.translate_of_struck h hf hs).trans (State.unlessHalted_of_not _ hfacts.1)
  obtain ⟨hrun, hmap, hrecord, hint, hrings⟩ := hfacts
  rw [htranslate]
  generalize s.cacheParity .translate m.index m.chan = v at *
  obtain ⟨hslot, hmap', hrings', hflt', hglb'⟩ := v.beginWalk_facts k m
  have haddr : v.map.entryAddr m.chan = s.map.entryAddr m.chan := by rw [hmap]; rfl
  rw [haddr] at hslot hmap'
  refine ⟨hslot, ?_, by rw [hflt']; exact hrecord, by rw [hglb']; exact hint, hrings'.trans hrings, ?_⟩
  · rw [hmap', hmap]
    rfl
  · exact (v.halted_beginWalk k m).trans hrun

/-- Settles O36: the descriptor read and the lookup of its channel. -/
theorem fetchCompletes : Obligations.FetchCompletes := by
  refine ⟨fun s k m w0 w1 w2 w3 e hw hin hst hf hc he hs hi => ?_, fun s k m w0 w1 w2 w3 hw hin hst hflt => ?_⟩
  · have hdone : s.due.fetchDone (.data w0 w1 w2 w3) = s.due.enterHalt s.due.cacheCause := by
      rw [State.fetchDone_of_good hst hf, State.translate_of_struck (m := m.described w0 w1 w2) hc he hs,
        State.cacheParity_halts _ _ _ hi]
      exact State.unlessHalted_of_halted _ (State.halted_enterHalt _ _)
    obtain ⟨b, hb⟩ := State.dmaEvent_halts (f := fun s => s.fetchDone (.data w0 w1 w2 w3)) hin hw hdone
    obtain ⟨hpower, hcause, hmap, hslots, hfault, -⟩ :=
      State.enterHalt_frame s.due.cacheCause (State.halted_of_awake hw)
    exact ⟨_, congrArg Host.Outcome.next hb, hpower, hcause, hmap, hslots, hfault⟩
  · intro c good
    have hrun := State.halted_of_awake hw
    have hgood (hf : txFormatError w0 w3 = false) : s.due.fetchDone (.data w0 w1 w2 w3) = s.due.translate k good :=
      State.fetchDone_of_good hst hf
    refine ⟨?_, fun hf => ?_, fun hf hc => ?_, fun hf hc hm => ?_, fun e hf hc he hs => ?_, fun e hf hc he hs hi => ?_⟩
    · have hdone := State.fetchDone_error hst
      refine ⟨_, exec_fetchComplete hw hin (by rw [hdone, State.halted_stagingFault]; exact hrun), ?_⟩
      rw [hdone]
      exact State.stagingFault_facts .descBus .fetch 0 m.txn hflt
    · have hdone := State.fetchDone_of_format (w1 := w1) (w2 := w2) hst hf
      obtain ⟨hslot, hring, hrecord, -⟩ := State.stagingFault_facts (k := k) (m := m.described w0 w1 w2) .descFormat
        .fetch (descChannel w0) m.txn hflt
      refine ⟨_, exec_fetchComplete hw hin (by rw [hdone, State.halted_stagingFault]; exact hrun), ?_⟩
      rw [hdone]
      exact ⟨hslot, hring, hrecord⟩
    · have hdone := (hgood hf).trans (State.translate_of_range (k := k) (by exact hc))
      obtain ⟨hslot, hring, hrecord, -⟩ :=
        State.stagingFault_facts (k := k) (m := good) .range .translate good.chan 0 hflt
      refine ⟨_, exec_fetchComplete hw hin (by rw [hdone, State.halted_stagingFault]; exact hrun), ?_⟩
      rw [hdone]
      exact ⟨hslot, hring, hrecord⟩
    · have hdone := (hgood hf).trans (State.translate_of_miss (by exact hc) (by exact hm))
      obtain ⟨hslot, hmap, hrings, -⟩ := s.due.beginWalk_facts k good
      refine ⟨_, exec_fetchComplete hw hin (by rw [hdone]; exact hrun), ?_⟩
      rw [hdone, hmap]
      exact ⟨hslot, rfl, rfl, hrings⟩
    · have hdone := (hgood hf).trans (State.translate_of_hit (by exact hc) he hs)
      refine ⟨_, exec_fetchComplete hw hin (by rw [hdone, State.halted_checkCopy]; exact hrun), ?_⟩
      rw [hdone, State.checkCopy_map]
      have hchan := ChannelMap.chan_of_find he
      refine ⟨?_, State.copyChecked_checkCopy (s := s.due.setMap (s.due.map.toHead e)) k good e.e e.addr true hflt⟩
      rw [State.setMap_map, ChannelMap.toHead, hchan]
      rfl
    · obtain ⟨hslot, hmap, hrecord, hint, hrings, hh⟩ :=
        State.translate_of_removed (s := s.due) (k := k) (m := good) hc he hs hi hflt hrun
      rw [← hgood hf] at hslot hmap hrecord hint hrings hh
      exact ⟨_, exec_fetchComplete hw hin hh, hslot, hmap, hrecord, hint, hrings⟩

end Sys2Proof.Machine
end

section
/-! PROOFS. The walk's read (R82, R83) and the Err write-back (R89, R90, R109, R111). -/

namespace Sys2Proof.Machine

set_option Elab.async false

variable {s t u : State} {k : Fin 2} {m : Message}

/-! ## The walk -/

/-- The state with the walk over. -/
def State.walked (s : State) : State := s.setMap { s.map with walk := none }

theorem State.walkDone_error {w : Walk} (h : s.StagedIn k m .translate) (hw : s.map.walk = some w) :
    s.walkDone .error = s.walked.stagingFault k m .mapBus .translate m.chan w.addr := by
  unfold State.walkDone
  rw [State.withPhase_of_stagedIn _ h]
  simp only [hw]
  rfl

theorem State.walkDone_of_invalid {w : Walk} {b : BitVec 64} (h : s.StagedIn k m .translate)
    (hw : s.map.walk = some w) (hb : b.getLsbD 0 = false) :
    s.walkDone (.data b) = s.walked.stagingFault k m .mapInvalid .translate m.chan w.addr := by
  have hv : (!entryValid b) = true := by rw [entryValid, hb]; rfl
  unfold State.walkDone
  rw [State.withPhase_of_stagedIn _ h]
  simp only [hw, hv, if_true]
  rfl

/-- The cache entry that a walk installs (R83). -/
def Walk.entry (w : Walk) (b : BitVec 64) : CacheEntry := { chan := w.chan, addr := w.addr, e := entryFields b }

/-- The walk is over, and its entry installed where the permission is held (R83). -/
def State.installed (s : State) (w : Walk) (b : BitVec 64) : State :=
  if w.permission then s.walked.setMap (s.walked.map.toHead (w.entry b)) else s.walked

theorem State.walkDone_of_valid {w : Walk} {b : BitVec 64} (h : s.StagedIn k m .translate)
    (hw : s.map.walk = some w) (hb : b.getLsbD 0 = true) :
    s.walkDone (.data b) = (s.installed w b).checkCopy k m (entryFields b) w.addr w.permission := by
  have hv : (!entryValid b) = false := by rw [entryValid, hb]; rfl
  unfold State.walkDone
  rw [State.withPhase_of_stagedIn _ h]
  simp only [hw, hv, Bool.false_eq_true, if_false]
  rfl

theorem State.installed_map (s : State) (w : Walk) (b : BitVec 64) :
    (s.installed w b).map = { s.map with
      walk := none,
      cache := if w.permission = true then (w.entry b :: s.map.cache.filter (fun x => x.chan != w.chan)).take 16
        else s.map.cache } := by
  cases h : w.permission with
  | true =>
    rw [State.installed, if_pos h]
    rfl
  | false =>
    rw [State.installed, if_neg (ne_true_of_eq_false h)]
    rfl

/-- An install changes the map alone. -/
theorem State.installed_frame (s : State) (w : Walk) (b : BitVec 64) : ∃ v, s.installed w b = s.setMap v := by
  cases h : w.permission with
  | true =>
    rw [State.installed, if_pos h]
    exact ⟨_, rfl⟩
  | false =>
    rw [State.installed, if_neg (ne_true_of_eq_false h)]
    exact ⟨_, rfl⟩

/-- The installed entry is found at once (R83). -/
theorem State.find_installed {w : Walk} (h : w.permission = true) (b : BitVec 64) :
    (s.installed w b).map.find w.chan = some (w.entry b) := by
  rw [State.installed, if_pos h]
  exact ChannelMap.find_toHead _ (w.entry b)

theorem State.length_installed (s : State) (w : Walk) (b : BitVec 64) :
    (s.installed w b).map.cache.length ≤ max 16 s.map.cache.length := by
  cases h : w.permission with
  | true =>
    rw [State.installed, if_pos h]
    exact le_max_of_le_left (ChannelMap.length_toHead _ _)
  | false =>
    rw [State.installed, if_neg (ne_true_of_eq_false h)]
    exact le_max_right _ _

theorem State.copyChecked_setMap {v : ChannelMap} {e : MapEntry} {a : Word} {b : Bool}
    (h : (s.setMap v).CopyChecked u k m e a b) : s.CopyChecked u k m e a b := h

/-- Settles O37: every valid entry is installed where the permission is held, whatever the checks then find. -/
theorem walkCompletes : Obligations.WalkCompletes := by
  intro s k m w b hw hin hst hwalk hflt
  have hrun := State.halted_of_awake hw
  refine ⟨?_, fun hb => ?_, fun hb => ?_⟩
  · have hdone := State.walkDone_error hst hwalk
    obtain ⟨hslot, hring, hrecord, -⟩ :=
      State.stagingFault_facts (s := s.due.walked) (k := k) (m := m) .mapBus .translate m.chan w.addr hflt
    refine ⟨_, exec_walkComplete hw hin (by rw [hdone, State.halted_stagingFault]; exact hrun), ?_⟩
    rw [hdone, State.stagingFault_map]
    exact ⟨hslot, rfl, hring, hrecord⟩
  · have hdone := State.walkDone_of_invalid hst hwalk hb
    obtain ⟨hslot, hring, hrecord, -⟩ :=
      State.stagingFault_facts (s := s.due.walked) (k := k) (m := m) .mapInvalid .translate m.chan w.addr hflt
    refine ⟨_, exec_walkComplete hw hin (by rw [hdone, State.halted_stagingFault]; exact hrun), ?_⟩
    rw [hdone, State.stagingFault_map]
    exact ⟨hslot, rfl, hring, hrecord⟩
  · intro e entry
    have hdone := State.walkDone_of_valid hst hwalk hb
    obtain ⟨v, hv⟩ := s.due.installed_frame w b
    have hflt' : (s.due.installed w b).flt = {} := by rw [hv]; exact hflt
    have hchecked := State.copyChecked_checkCopy k m (entryFields b) w.addr w.permission hflt'
    refine ⟨_, exec_walkComplete hw hin (by rw [hdone, State.halted_checkCopy, hv]; exact hrun), ?_⟩
    rw [hdone, State.checkCopy_map]
    refine ⟨s.due.installed_map w b, fun hp => State.find_installed hp b, s.due.length_installed w b, ?_⟩
    rw [hv] at hchecked ⊢
    exact State.copyChecked_setMap hchecked

/-! ## The Err write-back -/

theorem slotDma_errWrite (hm : s.slot k = some m) (hp : m.phase = .finishing .errWrite) :
    slotDma (s.slot k) = [.errWrite] := by
  simp [slotDma, hm, Message.dma, hp]

section
variable {r : WriteResult}

theorem exec_errWriteBackComplete_eq (hm : s.due.slot k = some m) (hp : m.phase = .finishing .errWrite) :
    exec (.errWriteBackComplete .live k r) s =
      .next (s.dmaEvent .live .errWrite fun s => s.errWriteDone k r) := by
  have hown : s.due.errWriteOwner .live k = .live := if_pos (slotDma_errWrite hm hp)
  change Host.Outcome.next (s.dmaEvent (s.due.errWriteOwner .live k) .errWrite fun s => s.errWriteDone k r) = _
  rw [hown]

theorem exec_errWriteBackComplete (hw : s.due.awake = true) (h : .errWrite ∈ s.due.inFlight)
    (hm : s.due.slot k = some m) (hp : m.phase = .finishing .errWrite)
    (hh : (s.due.errWriteDone k r).halted = false) :
    exec (.errWriteBackComplete .live k r) s = .next (s.due.errWriteDone k r).settle :=
  (exec_errWriteBackComplete_eq hm hp).trans (State.dmaEvent_next (f := fun s => s.errWriteDone k r) h hw hh)
end

theorem State.errWriteDone_ok (hm : s.slot k = some m) (hp : m.phase = .finishing .errWrite) (hs : m.sound = true) :
    s.errWriteDone k .ok = s.finishDone k m := by
  have hgood : unsound (!m.sound) .stagingParity = none := by rw [hs]; rfl
  simp only [State.errWriteDone, hm, hp, if_true, hgood, State.checked_none]

theorem State.errWriteDone_error (hm : s.slot k = some m) (hp : m.phase = .finishing .errWrite)
    (hs : m.sound = true) : s.errWriteDone k .error = s.finishFault k m := by
  have hgood : unsound (!m.sound) .stagingParity = none := by rw [hs]; rfl
  simp only [State.errWriteDone, hm, hp, if_true, hgood, State.checked_none]

theorem State.finishDone_eq {n : Snapshot} (hn : m.snap = some n) :
    s.finishDone k m = (s.cacheErr m.index n.chan).unlessHalted fun s1 => s1.joinMessage k m := by
  simp only [State.finishDone, hn, Option.map_some, Option.getD_some]

theorem State.cacheErr_of_miss {i : Byte} {c : Channel} (h : s.map.find c = none) : s.cacheErr i c = s := by
  simp only [State.cacheErr, h]

theorem State.cacheErr_of_sound {i : Byte} {c : Channel} {e : CacheEntry} (h : s.map.find c = some e)
    (hs : e.sound = true) : s.cacheErr i c = s.setMap (s.map.update c MapEntry.withErr) := by
  simp only [State.cacheErr, h, hs, if_true]

theorem State.cacheErr_of_struck {i : Byte} {c : Channel} {e : CacheEntry} (h : s.map.find c = some e)
    (hs : e.sound = false) : s.cacheErr i c = s.cacheParity .finish i c := by
  simp only [State.cacheErr, h, hs, Bool.false_eq_true, if_false]

/-- A change in place is what is found of a sound entry (R83). -/
theorem ChannelMap.find_update {p : ChannelMap} {c : Channel} {e : CacheEntry} (f : MapEntry → MapEntry)
    (h : p.find c = some e) (hs : e.sound = true) : (p.update c f).find c = some { e with e := f e.e } := by
  have hchan (x : CacheEntry) :
      ((if x.chan = c ∧ x.sound = true then { x with e := f x.e } else x : CacheEntry).chan == c) = (x.chan == c) := by
    split <;> rfl
  have hupd : (if e.chan = c ∧ e.sound = true then { e with e := f e.e } else e : CacheEntry) =
      { e with e := f e.e } := if_pos ⟨ChannelMap.chan_of_find h, hs⟩
  rw [ChannelMap.find] at h ⊢
  rw [ChannelMap.update]
  simp only [List.find?_map, Function.comp_def, hchan, h, Option.map_some, hupd]

/-- The message joins the holding list where the cache update has not halted the controller (R109). -/
theorem State.joinMessage_facts (s : State) (k : Fin 2) (m : Message) :
    (s.joinMessage k m).slot k = some { m with phase := .finishing .held } ∧
      (s.joinMessage k m).cq.holding = s.cq.holding ++ [m.entry k] ∧ (s.joinMessage k m).map = s.map ∧
      (s.joinMessage k m).rings = s.rings ∧ (s.joinMessage k m).flt = s.flt ∧ (s.joinMessage k m).glb = s.glb :=
  ⟨s.slot_setSlot_self k _, rfl, rfl, rfl, rfl, rfl⟩

/-- A FINISH fault keeps the slot and, where no other fault is outstanding, enters the record (R111). -/
theorem State.finishFault_facts {n : Snapshot} (hn : m.snap = some n) (hf : s.flt = {}) :
    let u := s.finishFault k m
    u.slot k = some { m with phase := .finishing .faulted } ∧ u.cq = s.cq ∧
      u.ring m.ring = { s.ring m.ring with state := .faulted, before := (s.ring m.ring).state } ∧
      u.flt.record = some {
        source := .tx m.ring, kind := .markBus, phase := .finish, sent := true, index := m.index, chan := n.chan,
        addr := m.txn, ioc := m.ioc, cookie := m.cookie } ∧ u.halted = s.halted := by
  have hchan : (m.snap.map (·.chan)).getD 0 = n.chan := by rw [hn]; rfl
  have hslot := s.slot_setSlot_self k (some { m with phase := .finishing .faulted })
  have hring := (s.setSlot k (some { m with phase := .finishing .faulted })).ring_setRing_self m.ring
    { s.ring m.ring with state := .faulted, before := (s.ring m.ring).state }
  unfold State.finishFault
  rw [hchan, State.post_of_empty _ (by exact hf)]
  exact ⟨hslot, rfl, hring, rfl, rfl⟩

/-- The end of FINISH where the cache update `v` has not halted the controller (R90, R109). -/
theorem State.finishDone_of_running {n : Snapshot} {v : State} (hn : m.snap = some n)
    (hv : s.cacheErr m.index n.chan = v) (hh : v.halted = false) : s.finishDone k m = v.joinMessage k m := by
  rw [State.finishDone_eq hn, hv, State.unlessHalted_of_not _ hh]

/-- Settles O39: the message joins, its cached entry changed in place, removed, or the controller halted. -/
theorem errWriteCompletes : Obligations.ErrWriteCompletes := by
  intro s k m n hw hin hm hp hs hn
  have hrun := State.halted_of_awake hw
  have hok := State.errWriteDone_ok hm hp hs
  have hjoin (v : State) (hv : s.due.cacheErr m.index n.chan = v) (hh : v.halted = false) :
      exec (.errWriteBackComplete .live k .ok) s = .next (v.joinMessage k m).settle := by
    have hdone := hok.trans (State.finishDone_of_running (k := k) hn hv hh)
    rw [exec_errWriteBackComplete hw hin hm hp (by rw [hdone]; exact hh), hdone]
  refine ⟨fun hf => ?_, fun e hf he => ?_, fun e hf he => ⟨fun hflt hi => ?_, fun hi => ?_⟩, fun hflt => ?_⟩
  · obtain ⟨hslot, hhold, hmap, hrings, -⟩ := s.due.joinMessage_facts k m
    exact ⟨_, hjoin _ (State.cacheErr_of_miss hf) hrun, hslot, hhold, hmap, hrings⟩
  · obtain ⟨hslot, hhold, hmap, hrings, hfault, -⟩ :=
      (s.due.setMap (s.due.map.update n.chan MapEntry.withErr)).joinMessage_facts k m
    refine ⟨_, hjoin _ (State.cacheErr_of_sound hf he) hrun, hslot, hhold, hmap, ?_, hrings, hfault⟩
    rw [hmap]
    exact ChannelMap.find_update MapEntry.withErr hf he
  · have hposts := (State.cacheErr_of_struck (i := m.index) hf he).trans
      (State.cacheParity_posts .finish m.index n.chan hi hflt)
    refine ⟨_, hjoin _ hposts hrun, State.slot_setSlot_self _ k _, rfl, rfl, rfl, rfl⟩
  · have hhalts := (State.cacheErr_of_struck (i := m.index) hf he).trans (State.cacheParity_halts _ _ _ hi)
    have hdone : s.due.errWriteDone k .ok = s.due.enterHalt s.due.cacheCause := by
      rw [hok, State.finishDone_eq hn, hhalts]
      exact State.unlessHalted_of_halted _ (State.halted_enterHalt _ _)
    obtain ⟨b, hb⟩ := State.dmaEvent_halts (f := fun s => s.errWriteDone k .ok) hin hw hdone
    obtain ⟨hpower, hcause, hmap, hslots, -, hcq⟩ := State.enterHalt_frame s.due.cacheCause hrun
    exact ⟨_, (exec_errWriteBackComplete_eq hm hp).trans (congrArg Host.Outcome.next hb), hpower, hcause, hmap, hslots,
      hcq⟩
  · have hdone := State.errWriteDone_error hm hp hs
    obtain ⟨hslot, hcq, hring, hrecord, hhalt⟩ := State.finishFault_facts (k := k) hn hflt
    refine ⟨_, exec_errWriteBackComplete hw hin hm hp (by rw [hdone]; exact hhalt.trans hrun), ?_⟩
    rw [hdone]
    exact ⟨hslot, congrArg Completion.holding hcq, hring, hrecord⟩

end Sys2Proof.Machine
end

section
/-! PROOFS. The steps of a drain and the receive faults (R123 to R128). -/

namespace Sys2Proof.Machine

set_option Elab.async false

variable {s t u : State} {d : Drain} {r : RxFrame} {rest : List RxFrame}

/-! ## The drain and its frame -/

theorem State.withDrain_of (hd : s.rxp.drain = some d) (hb : s.rxp.buffers = r :: rest) (f : Drain → RxFrame → State) :
    s.withDrain f = f d r := by
  simp only [State.withDrain, hd, hb]

theorem State.drainStart_of_sound (hw : s.awake = true) (hc : s.rxp.canDrain = true) (hb : s.rxp.buffers = r :: rest)
    (hs : r.sound = true) :
    s.drainStart = s.setRxp { s.rxp with
      drain := some { addr := itemAddr s.rxp.base s.rxp.cons, step := .desc } } := by
  have hhead : s.rxHeadUnsound = false := by simp [State.rxHeadUnsound, hb, hs]
  simp only [State.drainStart, hw, hc, Bool.and_self, if_true, hhead, unsound, Bool.false_eq_true, if_false,
    State.checked_none]

/-- A receive fault stops the drain, keeps the frame and enters the record, no other fault outstanding (R128). -/
theorem State.rxFault_facts (kind : FaultKind) (a : Word) (hf : s.flt = {}) :
    let u := s.rxFault kind a
    u.rxp = { s.rxp with drain := none, faulted := true } ∧
      u.flt.record = some { source := .rx, kind := kind, phase := .na, index := s.rxp.cons, chan := 0, addr := a } ∧
      u.glb.intstat = s.glb.intstat ||| IrqCause.fault.mask ∧ u.halted = s.halted := by
  have h : s.rxFault kind a = _ := State.post_of_empty (s := s.setRxp { s.rxp with drain := none, faulted := true })
    { source := .rx, kind := kind, phase := .na, index := s.rxp.cons, chan := 0, addr := a } hf
  rw [h]
  exact ⟨rfl, rfl, rfl, rfl⟩

/-! ## The four rows -/

section
variable {k : DmaKind} {f : State → State}

/-- The drain's completion that its step waits for. -/
theorem exec_drainComplete (c : Instr) (hc : exec c s = .next (s.dmaEvent .live k f)) (hw : s.due.awake = true)
    (h : d.dma ⊆ s.due.inFlight) (hk : k ∈ d.dma) (hh : (f s.due).halted = false) :
    exec c s = .next (f s.due).settle := hc.trans (State.dmaEvent_next (h hk) hw hh)
end

theorem Drain.dma_desc (h : d.step = .desc) : DmaKind.rxDesc ∈ d.dma := by simp [Drain.dma, h]
theorem Drain.dma_payload {b : Word} {c : Byte} {w : Nat} (h : d.step = .payload b c w) :
    DmaKind.rxPayload ∈ d.dma := by simp [Drain.dma, h]
theorem Drain.dma_word2 {v : Word} (h : d.step = .word2 v) : DmaKind.word2 ∈ d.dma := by simp [Drain.dma, h]
theorem Drain.dma_word3 {v : Word} (h : d.step = .word3 v) : DmaKind.word3 ∈ d.dma := by simp [Drain.dma, h]

/-! ## Steps that succeed -/

section
variable {w0 w1 w2 w3 : Word}

theorem State.rxDescDone_of_good (hd : s.rxp.drain = some d) (hb : s.rxp.buffers = r :: rest) (hs : r.sound = true)
    (hstep : d.step = .desc) (hc : rxCapacity w1 ≠ 0) :
    s.rxDescDone (.data w0 w1 w2 w3) = s.drainTo d (if r.delivered (rxCapacity w1) = 0 then .word2 (rxWord2 r 0)
      else .payload w0 (rxCapacity w1) 0) := by
  unfold State.rxDescDone
  rw [State.withDrain_of hd hb]
  simp only [hstep, hc, if_false, State.readFrame_of_sound _ hs]
  split <;> rfl

theorem State.rxDescDone_of_format (hd : s.rxp.drain = some d) (hb : s.rxp.buffers = r :: rest)
    (hstep : d.step = .desc) (hc : rxCapacity w1 = 0) :
    s.rxDescDone (.data w0 w1 w2 w3) = s.rxFault .descFormat d.addr := by
  unfold State.rxDescDone
  rw [State.withDrain_of hd hb]
  simp only [hstep, hc, if_true]

theorem State.rxDescDone_error (hd : s.rxp.drain = some d) (hb : s.rxp.buffers = r :: rest) (hstep : d.step = .desc) :
    s.rxDescDone .error = s.rxFault .descBus d.addr := by
  unfold State.rxDescDone
  rw [State.withDrain_of hd hb]
  simp only [hstep]
end

section
variable {buffer : Word} {capacity : Byte} {written count : Nat}

/-- A payload write of bytes that are still to be written (R125). -/
theorem State.rxPayloadDone_of_good (hd : s.rxp.drain = some d) (hb : s.rxp.buffers = r :: rest) (hs : r.sound = true)
    (hstep : d.step = .payload buffer capacity written) (hc : 0 < count)
    (hl : written + count ≤ r.delivered capacity) :
    s.rxPayloadDone count .ok = s.drainTo d (if written + count = r.delivered capacity
      then .word2 (rxWord2 r (written + count)) else .payload buffer capacity (written + count)) := by
  have hno : ¬(count = 0 ∨ r.delivered capacity - written < count) := by omega
  unfold State.rxPayloadDone
  rw [State.withDrain_of hd hb]
  simp only [hstep, RxFrame.length_unwritten, hno, if_false, State.readFrame_of_sound _ hs]
  by_cases he : written + count = r.delivered capacity
  · rw [if_pos (by omega), if_pos he, he]
  · rw [if_neg (by omega), if_neg he]

theorem State.rxPayloadDone_error (count : Nat) (hd : s.rxp.drain = some d) (hb : s.rxp.buffers = r :: rest)
    (hstep : d.step = .payload buffer capacity written) :
    s.rxPayloadDone count .error = s.rxFault .payloadBus (buffer + BitVec.ofNat 32 written) := by
  unfold State.rxPayloadDone
  rw [State.withDrain_of hd hb]
  simp only [hstep]

theorem State.payloadWrite_of (count : Nat) (hd : s.rxp.drain = some d) (hb : s.rxp.buffers = r :: rest)
    (hstep : d.step = .payload buffer capacity written) :
    s.payloadWrite count = (r.unwritten buffer capacity written).take count := by
  simp only [State.payloadWrite, hd, hb, hstep]

/-- A payload write carries the next bytes, in order (R125). -/
theorem State.payloadWrite_facts (hd : s.rxp.drain = some d) (hb : s.rxp.buffers = r :: rest)
    (hstep : d.step = .payload buffer capacity written) (hl : written + count ≤ r.delivered capacity) :
    (s.payloadWrite count).length = count ∧
      ∀ (i : Nat) (b : Byte), i < count → r.payload[written + i]? = some b →
        (s.payloadWrite count)[i]? = some (buffer + BitVec.ofNat 32 (written + i), b) := by
  rw [State.payloadWrite_of count hd hb hstep]
  refine ⟨?_, fun i b hi hbyte => ?_⟩
  · rw [List.length_take, RxFrame.length_unwritten]
    omega
  · rw [List.getElem?_take_of_lt hi, RxFrame.getElem?_unwritten _ _ _ _ _ (by omega), hbyte]
    rfl
end

theorem State.word2Done_of_good {v : Word} (hd : s.rxp.drain = some d) (hb : s.rxp.buffers = r :: rest)
    (hs : r.sound = true) (hstep : d.step = .word2 v) : s.word2Done .ok = s.drainTo d (.word3 (rxWord3 r)) := by
  unfold State.word2Done
  rw [State.withDrain_of hd hb]
  simp only [hstep, State.readFrame_of_sound _ hs]

theorem State.word2Done_error {v : Word} (hd : s.rxp.drain = some d) (hb : s.rxp.buffers = r :: rest)
    (hstep : d.step = .word2 v) : s.word2Done .error = s.rxFault .recordBus (d.addr + 8) := by
  unfold State.word2Done
  rw [State.withDrain_of hd hb]
  simp only [hstep]

theorem State.word3Done_ok {v : Word} (hd : s.rxp.drain = some d) (hstep : d.step = .word3 v) :
    s.word3Done .ok = s.drainEnds := by
  simp only [State.word3Done, hd, hstep]

theorem State.word3Done_error {v : Word} (hd : s.rxp.drain = some d) (hstep : d.step = .word3 v) :
    s.word3Done .error = s.rxFault .recordBus (d.addr + 12) := by
  simp only [State.word3Done, hd, hstep]

/-- Settles O40: each step of a drain, and what a payload write carries. -/
theorem drainSteps : Obligations.DrainSteps := by
  refine ⟨fun s r rest hw hc hb hs => ?_, fun s d r rest hw hd hb hs hin => ⟨fun hstep w0 w1 w2 w3 hc => ?_,
    fun buffer capacity written count hstep hpos hl => ?_, fun buffer capacity written count hstep => ?_,
    fun v hstep => ?_, fun v hstep => ?_⟩⟩
  · exact congrArg Host.Outcome.next (State.drainStart_of_sound hw hc hb hs)
  · have hrun := State.halted_of_awake hw
    have hdone := State.rxDescDone_of_good (w0 := w0) (w2 := w2) (w3 := w3) hd hb hs hstep hc
    refine ⟨_, exec_drainComplete _ rfl hw hin (Drain.dma_desc hstep) (by rw [hdone]; exact hrun), ?_⟩
    rw [hdone]
    rfl
  · have hrun := State.halted_of_awake hw
    obtain ⟨hlen, hbytes⟩ := State.payloadWrite_facts hd hb hstep hl
    have hdone := State.rxPayloadDone_of_good hd hb hs hstep hpos hl
    refine ⟨hlen, hbytes, _, exec_drainComplete _ rfl hw hin (Drain.dma_payload hstep) (by rw [hdone]; exact hrun), ?_⟩
    rw [hdone]
    rfl
  · rw [State.payloadWrite_of count hd hb hstep, List.length_take, RxFrame.length_unwritten]
    exact Nat.min_le_right _ _
  · have hrun := State.halted_of_awake hw
    have hdone := State.word2Done_of_good hd hb hs hstep
    refine ⟨_, exec_drainComplete _ rfl hw hin (Drain.dma_word2 hstep) (by rw [hdone]; exact hrun), ?_⟩
    rw [hdone]
    rfl
  · have hrun := State.halted_of_awake hw
    have hdone := State.word3Done_ok hd hstep
    refine ⟨_, exec_drainComplete _ rfl hw hin (Drain.dma_word3 hstep) (by rw [hdone]; exact hrun), ?_⟩
    rw [hdone]
    refine ⟨?_, rfl⟩
    change ({ s.due.rxp with
      cons := nextIndex s.due.rxp.cons s.due.rxp.size, buffers := s.due.rxp.buffers.tail, drain := none } : RxPath) = _
    rw [hb]
    rfl

/-- A drain's row whose step fails. -/
theorem exec_drainFails {k : DmaKind} {f : State → State} {kind : FaultKind} {a : Word} (c : Instr)
    (hc : exec c s = .next (s.dmaEvent .live k f)) (hw : s.due.awake = true) (h : d.dma ⊆ s.due.inFlight)
    (hk : k ∈ d.dma) (hf : s.due.flt = {}) (hdone : f s.due = s.due.rxFault kind a) :
    ∃ u : State, exec c s = .next u.settle ∧ u.rxp = { s.due.rxp with drain := none, faulted := true } ∧
      u.flt.record = some
        { source := .rx, kind := kind, phase := .na, index := s.due.rxp.cons, chan := 0, addr := a } ∧
      u.glb.intstat = s.due.glb.intstat ||| IrqCause.fault.mask := by
  obtain ⟨hrxp, hrecord, hint, hhalt⟩ := State.rxFault_facts kind a hf
  exact ⟨_, (exec_drainComplete c hc hw h hk (by rw [hdone, hhalt]; exact State.halted_of_awake hw)).trans
    (by rw [hdone]), hrxp, hrecord, hint⟩

/-- Settles O41: every step that fails is a receive fault, and none of them reads the frame. -/
theorem receiveFaults : Obligations.ReceiveFaults := by
  intro s d r rest hw hd hb hin hflt failed
  refine ⟨fun hstep => ⟨?_, fun w0 w1 w2 w3 hc => ?_⟩, fun buffer capacity written count hstep => ?_,
    fun v hstep => ?_, fun v hstep => ?_⟩
  · exact exec_drainFails _ rfl hw hin (Drain.dma_desc hstep) hflt (State.rxDescDone_error hd hb hstep)
  · exact exec_drainFails _ rfl hw hin (Drain.dma_desc hstep) hflt (State.rxDescDone_of_format hd hb hstep hc)
  · exact exec_drainFails _ rfl hw hin (Drain.dma_payload hstep) hflt (State.rxPayloadDone_error count hd hb hstep)
  · exact exec_drainFails _ rfl hw hin (Drain.dma_word2 hstep) hflt (State.word2Done_error hd hb hstep)
  · exact exec_drainFails _ rfl hw hin (Drain.dma_word3 hstep) hflt (State.word3Done_error hd hstep)

end Sys2Proof.Machine
end

section
/-! PROOFS. The receiver: false starts, edges, idle reference points, the gap limit and judged characters (R6 to R8, R10, R12,
R14, R15, R37). -/

namespace Sys2Proof.Machine

set_option Elab.async false

variable {s t u : State} {f : Frame}

/-! ## What a reply window leaves alone -/

/-- `t` comes from `s` by what a notice does to a reply window: of the counters TIMEOUTS alone may change, and FRX does not
leave Hunt. -/
structure State.Window (s t : State) : Prop where
  counters : ∃ n, t.counters = { s.counters with timeouts := n } := by exact ⟨_, rfl⟩
  line : t.line = s.line := by rfl
  hunt : s.frx.state = .hunt → t.frx.state = .hunt := by exact id
  causes : ∃ i, t.glb.intstat = s.glb.intstat ||| i := by exact ⟨0, BitVec.or_zero.symm⟩
  halted : s.halted = true → t.halted = true := by exact id
  tx : t.halted = false → t.tx = s.tx := by exact fun _ => rfl
  power : t.halted = false → t.glb.power = s.glb.power := by exact fun _ => rfl

theorem State.Window.refl (s : State) : s.Window s := {}

theorem State.Window.trans (h : s.Window t) (h' : t.Window u) : s.Window u where
  counters := by
    obtain ⟨n, hn⟩ := h.counters
    obtain ⟨n', hn'⟩ := h'.counters
    exact ⟨n', by rw [hn', hn]⟩
  line := h'.line.trans h.line
  hunt := h'.hunt ∘ h.hunt
  causes := causes_trans h.causes h'.causes
  halted := h'.halted ∘ h.halted
  tx hu := (h'.tx hu).trans (h.tx (State.halted_of_monotone h'.halted hu))
  power hu := (h'.power hu).trans (h.power (State.halted_of_monotone h'.halted hu))

theorem State.Closes.window (h : s.Closes t) : s.Window t where
  counters := ⟨s.counters.timeouts, h.counters⟩
  line := h.line
  hunt := h.hunt
  causes := h.causes
  halted := h.halted
  tx := h.tx
  power := h.power

theorem State.Window.ite {c : Prop} [Decidable c] {a b : State} (ha : c → s.Window a) (hb : ¬c → s.Window b) :
    s.Window (if c then a else b) := by
  split
  · exact ha ‹_›
  · exact hb ‹_›

theorem State.Window.unlessHalted {f : State → State} (h : s.Window t) (hf : t.Window (f t)) :
    s.Window (t.unlessHalted f) := .ite (fun _ => h) fun _ => h.trans hf

theorem State.window_windowExpires (s : State) : s.Window s.windowExpires :=
  State.Window.trans (t := s.bump .timeouts) {} (State.closes_failExchange _ _).window

theorem State.window_resumeWindow (s : State) : s.Window s.resumeWindow :=
  .ite (fun _ => State.Window.trans (t := s.setLink { s.link with x := { s.link.x with met := false } }) {}
    (State.window_windowExpires _)) fun _ => {}

theorem State.window_discardNotice (s : State) : s.Window s.discardNotice :=
  .ite (fun _ => s.window_resumeWindow) fun _ => .refl s

theorem State.window_windowAfterChar (s : State) : s.Window s.windowAfterChar :=
  .ite (fun _ => s.window_windowExpires) fun _ => .refl s

theorem State.window_frxHunt (s : State) : s.Window s.frxHunt := { hunt := fun _ => rfl }

theorem State.window_frxDrop (s : State) : s.Window s.frxDrop :=
  .ite (fun _ => s.window_frxHunt.trans (State.window_discardNotice _)) fun _ => s.window_frxHunt

/-- An abandoned frame leaves FRX in Hunt, whatever its discard notice does (R25, R26). -/
theorem State.frxDrop_hunt (s : State) : s.frxDrop.frx.state = .hunt := by
  unfold State.frxDrop
  split
  · exact (State.window_discardNotice s.frxHunt).hunt rfl
  · rfl

/-- GAP counts for a counted frame alone (R14, R17). -/
theorem State.frxTruncate_facts (s : State) :
    s.frxTruncate.frx.state = .hunt ∧
      (if s.frx.counted && s.frx.state.collecting then s.bump .gap else s).Window s.frxTruncate :=
  ⟨State.frxDrop_hunt _, State.window_frxDrop _⟩

theorem State.Window.counter (h : s.Window t) (c : Counter) (hc : c ≠ .timeouts) :
    t.counters.get c = s.counters.get c := by
  obtain ⟨n, hn⟩ := h.counters
  rw [hn]
  cases c with
  | timeouts => exact absurd rfl hc
  | _ => rfl

/-- Every counter but GAP and TIMEOUTS stays, and GAP counts a counted frame (R14). -/
theorem State.frxTruncate_counters (s : State) :
    s.frxTruncate.counters.gap =
        (if s.frx.counted && s.frx.state.collecting then satInc s.counters.gap else s.counters.gap) ∧
      ∀ c : Counter, c ≠ .timeouts → c ≠ .gap → s.frxTruncate.counters.get c = s.counters.get c := by
  have hw := s.frxTruncate_facts.2
  refine ⟨?_, fun c ht hg => ?_⟩
  · refine (hw.counter .gap (fun e => nomatch e)).trans ?_
    split <;> rfl
  · refine (hw.counter c ht).trans ?_
    split
    · exact Counters.get_put_other _ _ (Ne.symm hg)
    · rfl

theorem exec_gapLimitTruncation (h : s.due.awake = true) :
    exec .gapLimitTruncation s = .next s.due.gapExpires.settle := congrArg _ (State.event_of_awake _ h)

theorem State.endStopBit_of_none (h : s.rx.stopEnd = false) : s.endStopBit = s := if_neg (ne_true_of_eq_false h)

theorem State.endStopBit_of_stop (h : s.rx.stopEnd = true) :
    s.endStopBit = s.setRx { s.rx with
      stopEnd := false, idle := some 0, gap := if s.frx.state = .hunt then none else some 0 } := if_pos h

theorem State.gapExpires_of_gap (ha : s.rx.active = true) (hs : s.rx.stopEnd = false) (hg : s.rx.gap.isSome = true)
    (hc : s.rx.inChar = false) (hf : s.frx.state ≠ .hunt) : s.gapExpires = s.frxTruncate := by
  have hf : (s.frx.state != .hunt) = true := bne_iff_ne.mpr hf
  have hgo : (s.rx.active && s.rx.gap.isSome && !s.rx.inChar && s.frx.state != .hunt) = true := by
    rw [ha, hg, hc, hf]
    rfl
  simp only [State.gapExpires, State.endStopBit_of_none hs, hgo, if_true]

/-- Settles O16: the gap limit truncates the frame in progress. -/
theorem gapLimitTruncates : Obligations.GapLimitTruncates := by
  intro s hw ha hs hg hc hf
  obtain ⟨hgap, hother⟩ := s.due.frxTruncate_counters
  refine ⟨_, exec_gapLimitTruncation hw, ?_⟩
  rw [State.gapExpires_of_gap ha hs hg hc hf]
  exact ⟨s.due.frxTruncate_facts.1, hgap, hother .noise (fun e => nomatch e) (fun e => nomatch e),
    hother .framing (fun e => nomatch e) (fun e => nomatch e), hother .check (fun e => nomatch e) (fun e => nomatch e),
    hother .format (fun e => nomatch e) (fun e => nomatch e)⟩

/-! ## Edges and idle reference points -/

theorem State.endStopBit_eq (s : State) : ∃ r : LineRx, s.endStopBit = s.setRx r ∧ r.brk = s.rx.brk := by
  unfold State.endStopBit
  split
  · exact ⟨_, rfl, rfl⟩
  · exact ⟨s.rx, rfl, rfl⟩

theorem State.noteStart_eq (s : State) : ∃ l : Link, s.noteStart = s.setLink l ∧ l.state = s.link.state := by
  unfold State.noteStart
  split
  · exact ⟨_, rfl, rfl⟩
  · exact ⟨s.link, rfl, rfl⟩

/-- A falling edge that begins a character (R6, R12). -/
theorem State.fallingEdge_begins (ha : s.rx.active = true) (ht : s.tx.phase = .off) (hc : s.rx.inChar = false) :
    ∃ (r : LineRx) (l : Link), s.fallingEdge = (s.setRx r).setLink l ∧ r.idle = none ∧ r.inChar = true ∧
      r.brk = s.rx.brk.edge ∧ l.state = s.link.state := by
  have hwork : (!s.rx.active || s.tx.phase == .brk) = false := by rw [ha, ht]; rfl
  have hfree : (s.tx.phase == .frame || s.rx.inChar) = false := by rw [hc, ht]; rfl
  obtain ⟨r, hr, hb⟩ := s.endStopBit_eq
  obtain ⟨l, hl, hs⟩ := ((s.setRx r).setRx { r with
    idle := none, inChar := true, awaitHigh := false, brk := r.brk.edge }).noteStart_eq
  refine ⟨{ r with idle := none, inChar := true, awaitHigh := false, brk := r.brk.edge }, l, ?_, rfl, rfl,
    congrArg BreakDet.edge hb, hs⟩
  simp only [State.fallingEdge, hwork, hfree, Bool.false_eq_true, if_false, hr, State.setRx_rx]
  exact hl

/-- Inside a character only the break detector sees the edge (R10). -/
theorem State.fallingEdge_inside (ha : s.rx.active = true) (ht : s.tx.phase = .off) (hc : s.rx.inChar = true) :
    s.fallingEdge = s.setRx { s.rx with brk := s.rx.brk.edge } := by
  have hwork : (!s.rx.active || s.tx.phase == .brk) = false := by rw [ha, ht]; rfl
  have hbusy : (s.tx.phase == .frame || s.rx.inChar) = true := by rw [hc, ht]; rfl
  simp only [State.fallingEdge, hwork, hbusy, Bool.false_eq_true, if_false, if_true]

theorem State.idlePoint_of_stop (ha : s.rx.active = true) (hs : s.rx.stopEnd = true) : s.idlePoint = s.endStopBit := by
  simp only [State.idlePoint, ha, Bool.not_true, Bool.false_eq_true, if_false, hs, if_true]

theorem State.idlePoint_of_wait (ha : s.rx.active = true) (hs : s.rx.stopEnd = false)
    (h : s.rx.awaitHigh = true ∨ s.rx.inChar = true) :
    s.idlePoint = s.setRx { s.rx with awaitHigh := false, idle := some 0 } := by
  have hgo : (s.rx.awaitHigh || s.rx.inChar) = true := by rw [Bool.or_eq_true]; exact h
  simp only [State.idlePoint, ha, Bool.not_true, Bool.false_eq_true, if_false, hs, hgo, if_true]

theorem State.detecting_of_off (ha : s.rx.active = true) (ht : s.tx.phase ≠ .brk) : s.detecting = true := by
  rw [State.detecting, ha, Bool.true_and]
  exact bne_iff_ne.mpr ht

theorem State.lineEvent_of_awake {g h : State → State} (hw : s.due.awake = true) :
    s.lineEvent g h = (g s.due).settle := by
  have hno : s.due.watching = false := by
    obtain ⟨-, hp⟩ := (State.awake_iff _).mp hw
    rcases hp with hp | hp <;> simp [State.watching, hp]
  rw [State.lineEvent_of_not_watching _ _ hno, State.event_of_awake _ hw]

theorem exec_fallingEdge (h : s.due.awake = true) : exec .fallingEdge s = .next s.due.fallingEdge.settle :=
  congrArg _ (State.lineEvent_of_awake h)

theorem exec_breakRunEnd (h : s.due.awake = true) : exec .breakRunEnd s = .next s.due.breakRunEnd.settle :=
  congrArg _ (State.lineEvent_of_awake h)

theorem exec_idleReferencePoint (h : s.due.awake = true) :
    exec .idleReferencePoint s = .next s.due.idlePoint.settle := congrArg _ (State.event_of_awake _ h)

theorem exec_breakDetectorRearm (h : s.due.awake = true) :
    exec .breakDetectorRearm s = .next s.due.breakRearm.settle := congrArg _ (State.event_of_awake _ h)

/-- Settles O14: falling edges, idle reference points, and the detector's returns to Armed. -/
theorem edgesAndIdlePoints : Obligations.EdgesAndIdlePoints := by
  intro s hw ha ht
  have hdet : s.due.detecting = true := State.detecting_of_off ha (by rw [ht]; exact fun e => nomatch e)
  refine ⟨fun hc => ?_, fun hc => ?_, fun hs => ?_, fun hs h => ?_, fun hb => ?_, fun n hb => ?_⟩
  · obtain ⟨r, l, he, hidle, hin, hbrk, hstate⟩ := State.fallingEdge_begins ha ht hc
    refine ⟨_, exec_fallingEdge hw, ?_⟩
    rw [he]
    exact ⟨hidle, hin, hbrk, rfl, rfl, hstate⟩
  · rw [exec_fallingEdge hw, State.fallingEdge_inside ha ht hc]
  · rw [exec_idleReferencePoint hw, State.idlePoint_of_stop ha hs, State.endStopBit_of_stop hs]
  · rw [exec_idleReferencePoint hw, State.idlePoint_of_wait ha hs h]
  · have hgo : (s.due.detecting && s.due.rx.brk == .rearming) = true := by rw [hdet, hb]; rfl
    rw [exec_breakDetectorRearm hw, State.breakRearm, if_pos hgo]
  · rw [exec_breakRunEnd hw, State.breakRunEnd, if_pos hdet, hb]
    rfl

/-! ## False starts -/

theorem State.impliedEdge_of_char (h : s.rx.inChar = true) : s.impliedEdge = s := if_pos h

/-- The receiver after a false start (R7). -/
def State.falseStarted (s : State) : State :=
  s.setRx { s.rx with inChar := false, idle := some (s.rx.idle.getD 0) }

theorem State.falseStart_of_char (hc : s.rx.inChar = true) :
    s.falseStart = (if s.falseStarted.rx.gap = some Config.gapLimit ∧ s.falseStarted.frx.state ≠ .hunt then
      s.falseStarted.frxTruncate else s.falseStarted).unlessHalted State.windowAfterChar := by
  rw [State.falseStart, State.impliedEdge_of_char hc]
  rfl

theorem State.windowAfterChar_of_not_awaiting (h : s.awaitingReply = false) : s.windowAfterChar = s := by
  simp only [State.windowAfterChar, h, Bool.false_and, Bool.false_eq_true, if_false]

theorem exec_falseStart (hw : s.due.awake = true) (ha : s.due.rx.active = true) (ht : s.due.tx.phase = .off) :
    exec .falseStart s = .next s.due.falseStart.settle := by
  have hgo : (s.due.rx.active && s.due.tx.phase == .off) = true := by rw [ha, ht]; rfl
  have h : exec .falseStart s = .next s.due.falseStartSeen.settle := congrArg _ (State.event_of_awake _ hw)
  rw [h, State.falseStartSeen, if_pos hgo]

/-- Settles O15: only a gap limit that has passed truncates the frame. -/
theorem falseStartIgnored : Obligations.FalseStartIgnored := by
  intro s hw ha ht hc hawait
  have hrun := State.halted_of_awake hw
  have hstart := State.falseStart_of_char hc
  rw [exec_falseStart hw ha ht]
  refine ⟨fun h => ?_, fun hg hf => ⟨_, rfl, ?_⟩⟩
  · have hno : ¬(s.due.falseStarted.rx.gap = some Config.gapLimit ∧ s.due.falseStarted.frx.state ≠ .hunt) :=
      fun ⟨hg, hf⟩ => h.elim (fun h => h hg) hf
    rw [hstart, if_neg hno, State.unlessHalted_of_not _ (by exact hrun),
      State.windowAfterChar_of_not_awaiting (by exact hawait)]
    rfl
  · have hgo : s.due.falseStarted.rx.gap = some Config.gapLimit ∧ s.due.falseStarted.frx.state ≠ .hunt := ⟨hg, hf⟩
    obtain ⟨hhunt, -⟩ := s.due.falseStarted.frxTruncate_facts
    have hgap := s.due.falseStarted.frxTruncate_counters.1
    rw [hstart, if_pos hgo]
    have hw := State.Window.unlessHalted (.refl s.due.falseStarted.frxTruncate) (State.window_windowAfterChar _)
    exact ⟨hw.hunt hhunt, (hw.counter .gap (fun e => nomatch e)).trans hgap⟩

/-! ## What a good character's delivery counts -/

/-- `t` has counted neither NOISE nor FRAMING since `s`. -/
structure State.SameErrors (s t : State) : Prop where
  noise : t.counters.noise = s.counters.noise := by rfl
  framing : t.counters.framing = s.counters.framing := by rfl

theorem State.SameErrors.refl (s : State) : s.SameErrors s := {}

theorem State.SameErrors.trans (h : s.SameErrors t) (h' : t.SameErrors u) : s.SameErrors u where
  noise := h'.noise.trans h.noise
  framing := h'.framing.trans h.framing

theorem State.SameErrors.of_eq (h : t.counters = s.counters) : s.SameErrors t where
  noise := congrArg Counters.noise h
  framing := congrArg Counters.framing h

theorem State.Window.sameErrors (h : s.Window t) : s.SameErrors t where
  noise := h.counter .noise (fun e => nomatch e)
  framing := h.counter .framing (fun e => nomatch e)

theorem State.Closes.sameErrors (h : s.Closes t) : s.SameErrors t := .of_eq h.counters
theorem State.Finishes.sameErrors (h : s.Finishes t) : s.SameErrors t := .of_eq h.counters
theorem State.Marks.sameErrors (h : s.Marks t) : s.SameErrors t := .of_eq h.frame.2.2.2.2.2.1

theorem State.SameErrors.ite {c : Prop} [Decidable c] {a b : State} (ha : c → s.SameErrors a)
    (hb : ¬c → s.SameErrors b) : s.SameErrors (if c then a else b) := by
  split
  · exact ha ‹_›
  · exact hb ‹_›

theorem State.SameErrors.checked {g : State → State} (bad : Option HaltCause) (hf : s.SameErrors (g s)) :
    s.SameErrors (s.checked bad g) := by
  cases bad with
  | none => exact hf
  | some c => exact (s.finishes_enterHalt c).sameErrors

theorem State.SameErrors.unlessHalted {g : State → State} (h : s.SameErrors t) (hf : t.SameErrors (g t)) :
    s.SameErrors (t.unlessHalted g) := .ite (fun _ => h) fun _ => h.trans hf

theorem State.sameErrors_stray (s : State) : s.SameErrors (s.bump .stray) := {}

theorem State.finishes_nakFull (s : State) (k : Fin 2) : s.Finishes (s.nakFull k) := by
  unfold State.nakFull
  split
  · exact .refl s
  · exact .ite (fun _ => (s.finishes_setSlot k _).trans (State.finishes_giveOutcome _ k _)) fun _ =>
      (s.finishes_setSlot k _).trans (State.finishes_settleStopping _ k)

theorem State.finishes_messageReply (s : State) (k : Fin 2) (f : Frame) : s.Finishes (s.messageReply k f) :=
  .ite (fun _ => s.finishes_endMessage k _) fun _ => .ite (fun _ => s.finishes_endMessage k _) fun _ =>
    s.finishes_nakFull k

theorem State.sameErrors_toIdle (h : s.SameErrors t) : s.SameErrors (t.unlessHalted State.toIdle) :=
  h.unlessHalted t.closes_toIdle.sameErrors

theorem State.sameErrors_outboundReply (s : State) (f : Frame) : s.SameErrors (s.outboundReply f) := by
  have hmark (v : State) : v.SameErrors (v.replyMark s.link.x.station) := (v.marks_replyMark _).sameErrors
  have h1 : s.SameErrors (if f.kind = .ack then
      s.setStation s.link.x.station { s.station s.link.x.station with outSeq := !(s.station s.link.x.station).outSeq }
      else s) := .ite (fun _ => (s.marks_setStation _ _).sameErrors) fun _ => .refl s
  refine State.sameErrors_toIdle ?_
  cases s.link.x.slot with
  | none => exact h1.trans (hmark _)
  | some k => exact (h1.trans (hmark _)).trans (State.finishes_messageReply _ k f).sameErrors

theorem State.sameErrors_dsyncAck (s : State) : s.SameErrors s.dsyncAck := by
  have h1 := ((s.marks_setStation s.link.x.station { s.station s.link.x.station with
    outSeq := false, inSeq := none, resyncNeeded := false }).trans (State.marks_replyMark _ s.link.x.station)).sameErrors
  refine State.sameErrors_toIdle ?_
  cases s.link.x.slot with
  | none => exact h1
  | some k => exact h1.trans (State.finishes_settleStopping _ k).sameErrors

theorem State.sameErrors_applyInbound (s : State) (i : Inbound) (g : RxFrame) : s.SameErrors (s.applyInbound i g) := by
  cases i <;> exact {}

theorem State.sameErrors_pollReply (s : State) (f : Frame) : s.SameErrors (s.pollReply f) := by
  have hmark := (s.marks_replyMark s.link.x.station).sameErrors
  refine .ite (fun _ => ?_) fun _ => ?_
  · have happly := fun i g => hmark.trans ((s.replyMark s.link.x.station).sameErrors_applyInbound i g)
    exact State.SameErrors.trans (State.SameErrors.ite
      (fun _ => (happly _ _).trans (State.marks_setStation _ _ _).sameErrors) fun _ => happly _ _) {}
  · exact State.SameErrors.trans (State.SameErrors.ite (fun _ => hmark.trans (State.marks_setResync _ _ _).sameErrors)
      fun _ => hmark) (State.closes_toIdle _).sameErrors

theorem State.sameErrors_anchorReply (s : State) (f : Frame) : s.SameErrors (s.anchorReply f) := by
  unfold State.anchorReply
  split
  · exact s.sameErrors_outboundReply f
  · exact s.sameErrors_dsyncAck
  · exact s.sameErrors_pollReply f
  · exact .refl s

theorem State.sameErrors_anchorFrame (s : State) (f : Frame) : s.SameErrors (s.anchorFrame f) :=
  .ite (fun _ => .ite (fun _ => s.sameErrors_stray.trans (State.window_resumeWindow _).sameErrors) fun _ =>
    .checked _ (.ite (fun _ => s.sameErrors_anchorReply f) fun _ =>
      s.sameErrors_stray.trans (State.closes_failExchange _ _).sameErrors)) fun _ => s.sameErrors_stray

theorem State.sameErrors_memberReply (s : State) (k : Fin 4) (slot : Option (Fin 2)) (o : OutFrame) :
    s.SameErrors (s.memberReply k slot o) := .ite (fun _ => {}) fun _ => .refl s

theorem State.sameErrors_memberData (s : State) (k : Fin 4) (f : Frame) : s.SameErrors (s.memberData k f) := by
  have h1 := fun i g => s.sameErrors_applyInbound i g
  exact (State.SameErrors.ite (fun _ => (h1 _ _).trans {}) fun _ => h1 _ _).trans
    (State.sameErrors_memberReply _ k none _)

theorem State.sameErrors_pollAnswer (s : State) (k : Fin 4) : s.SameErrors (s.pollAnswer k) := by
  refine .ite (fun _ => s.sameErrors_memberReply ..) fun _ => .checked _ ?_
  cases s.pollPick k with
  | none => exact s.sameErrors_memberReply ..
  | some j => exact s.sameErrors_memberReply ..

theorem State.sameErrors_dispatch (s : State) (target : Option (Fin 4)) (f : Frame) :
    s.SameErrors (s.dispatch target f) := by
  unfold State.dispatch
  cases target with
  | some k =>
    refine .checked _ ?_
    cases f.kind with
    | data => exact s.sameErrors_memberData k f
    | poll => exact s.sameErrors_pollAnswer k
    | sync => exact State.SameErrors.trans (t := s.setLsn k (s.lsn k).synced) {} (State.sameErrors_memberReply ..)
    | ack => exact s.sameErrors_stray
    | nak => exact s.sameErrors_stray
    | none => exact s.sameErrors_stray
  | none =>
    cases f.kind with
    | data => exact .ite (fun _ => {}) fun _ => {}
    | sync => exact .checked _ {}
    | poll => exact s.sameErrors_stray
    | ack => exact s.sameErrors_stray
    | nak => exact s.sameErrors_stray
    | none => exact s.sameErrors_stray

theorem State.sameErrors_memberAck (s : State) (f : Frame) : s.SameErrors (s.memberAck f) := by
  have h1 : s.SameErrors (if f.kind = .ack then
      s.setLsn s.link.x.lslot { s.lsn s.link.x.lslot with outSeq := !(s.lsn s.link.x.lslot).outSeq } else s) :=
    .ite (fun _ => {}) fun _ => .refl s
  refine State.sameErrors_toIdle ?_
  cases s.link.x.slot with
  | none => exact h1
  | some j => exact h1.trans (State.finishes_messageReply _ j f).sameErrors

theorem State.sameErrors_memberFrame (s : State) (f : Frame) : s.SameErrors (s.memberFrame f) := by
  have hsettle (v : State) (target : Option (Fin 4)) : v.SameErrors (v.memberSettles target f) :=
    .ite (fun _ => .checked _ (v.sameErrors_memberAck f)) fun _ => (v.closes_failExchange _).sameErrors
  have hrestart := s.closes_restartAnchor.sameErrors
  exact .ite (fun _ => .refl s) fun _ => .ite
    (fun _ => (hrestart.trans (hsettle _ _)).unlessHalted (State.sameErrors_dispatch _ _ f)) fun _ =>
      hrestart.trans (State.sameErrors_dispatch _ _ f)

theorem State.sameErrors_validFrame (s : State) (f : Frame) : s.SameErrors (s.validFrame f) := by
  unfold State.validFrame
  split
  · exact s.sameErrors_anchorFrame f
  · exact s.sameErrors_memberFrame f

/-! ## FRX -/

theorem State.sameErrors_formatViolation (s : State) : s.SameErrors s.formatViolation :=
  State.SameErrors.trans (State.SameErrors.ite (fun _ => {}) fun _ => .refl s) (State.window_frxDrop _).sameErrors

theorem State.sameErrors_frxTruncate (s : State) : s.SameErrors s.frxTruncate :=
  State.SameErrors.trans (State.SameErrors.ite (fun _ => {}) fun _ => .refl s) (State.window_frxDrop _).sameErrors

theorem State.closes_cancelGuard (s : State) : s.Closes s.cancelGuard :=
  s.closes_toIdle.trans s.cancelGuard_facts.1.closes

theorem State.sameErrors_headNotice (s : State) (a : Bool) : s.SameErrors (s.headNotice a) :=
  .ite (fun _ => s.closes_cancelGuard.sameErrors) fun _ => .ite (fun _ => {}) fun _ => .refl s

theorem State.sameErrors_headChar (s : State) (b : Byte) : s.SameErrors (s.headChar b) := by
  unfold State.headChar
  dsimp only
  refine (s.sameErrors_headNotice _).unlessHalted ?_
  generalize s.headNotice (s.addressed (b.extractLsb' 0 7)) = v
  have hbegin : v.SameErrors (v.frxBegin (b.extractLsb' 0 7)) := .ite (fun _ => {}) fun _ => {}
  refine .ite (fun _ => hbegin.trans ?_) fun _ => hbegin
  generalize v.frxBegin (b.extractLsb' 0 7) = w
  split
  · exact w.sameErrors_formatViolation
  · exact w.window_frxHunt.sameErrors

theorem State.sameErrors_frxHeader (s : State) (g : HeaderField) (b : Byte) : s.SameErrors (s.frxHeader g b) := by
  cases g with
  | source => exact .ite (fun _ => s.sameErrors_formatViolation) fun _ => {}
  | control =>
    unfold State.frxHeader
    dsimp only
    cases Kind.ofCode (b.extractLsb' 0 4) with
    | none => exact s.sameErrors_formatViolation
    | some k => exact .ite (fun _ => s.sameErrors_formatViolation) fun _ => {}
  | port => exact .ite (fun _ => s.sameErrors_formatViolation) fun _ => {}
  | length => exact .ite (fun _ => s.sameErrors_formatViolation) fun _ => {}

theorem State.sameErrors_frxValidate (s : State) (r : BitVec 16) : s.SameErrors (s.frxValidate r) := by
  have hstray : s.SameErrors (s.bump .stray).frxDrop := s.sameErrors_stray.trans (State.window_frxDrop _).sameErrors
  exact .ite (fun _ => State.SameErrors.trans (t := s.bump .check) {} (State.window_frxDrop _).sameErrors) fun _ =>
    .ite (fun _ => hstray) fun _ => .ite (fun _ => hstray) fun _ =>
      s.window_frxHunt.sameErrors.trans (State.sameErrors_validFrame _ _)

theorem State.sameErrors_frxPass (s : State) (p : PassField) (b : Byte) : s.SameErrors (s.frxPass p b) := by
  have hhunt := s.window_frxHunt.sameErrors
  cases p with
  | source => exact {}
  | control =>
    unfold State.frxPass
    dsimp only
    cases Kind.ofCode (b.extractLsb' 0 4) with
    | none => exact hhunt
    | some k => cases k <;> exact {}
  | port => exact {}
  | length => exact .ite (fun _ => hhunt) fun _ => {}
  | skip n => exact .ite (fun _ => hhunt) fun _ => {}

/-- A good character delivered to FRX counts neither NOISE nor FRAMING (R6, R8). -/
theorem State.sameErrors_frxChar (s : State) (b : Byte) (tag : Bool) : s.SameErrors (s.frxChar b tag) := by
  unfold State.frxChar
  split
  · exact (State.SameErrors.ite (fun _ => .refl s) fun _ => s.sameErrors_frxTruncate).unlessHalted
      (State.sameErrors_headChar _ b)
  · cases s.frx.state with
    | hunt => exact .refl s
    | header g => exact s.sameErrors_frxHeader g b
    | body => exact {}
    | check hi =>
      cases hi with
      | none => exact {}
      | some h => exact s.sameErrors_frxValidate _
    | pass p => exact s.sameErrors_frxPass p b

/-! ## Judged characters -/

theorem exec_characterReceived (c : RxChar) (h : s.due.awake = true) :
    exec (.characterReceived c) s = .next (s.due.charReceived c).settle := congrArg _ (State.event_of_awake _ h)

theorem State.charReceived_of_off (c : RxChar) (ha : s.rx.active = true) (ht : s.tx.phase = .off)
    (hs : c.start = false) :
    s.charReceived c = (if c.stop then s.impliedEdge.goodChar c else s.impliedEdge.framingError).unlessHalted
      State.windowAfterChar := by
  simp only [State.charReceived, ha, Bool.not_true, Bool.false_eq_true, if_false, ht, State.judgeChar, hs]

theorem State.charReceived_of_frame (c : RxChar) (ha : s.rx.active = true) (ht : s.tx.phase = .frame) :
    s.charReceived c = s.echoChar c := by
  simp only [State.charReceived, ha, Bool.not_true, Bool.false_eq_true, if_false, ht]

theorem State.impliedEdge_counters (ha : s.rx.active = true) (ht : s.tx.phase = .off) :
    s.impliedEdge.counters = s.counters := by
  cases hc : s.rx.inChar with
  | true => rw [State.impliedEdge_of_char hc]
  | false =>
    obtain ⟨r, l, he, -⟩ := State.fallingEdge_begins ha ht hc
    rw [State.impliedEdge, if_neg (ne_true_of_eq_false hc), he]
    rfl

/-- A good character counts NOISE alone, once where it is noisy (R6). -/
theorem State.goodChar_counts (s : State) (c : RxChar) :
    (s.goodChar c).counters.noise = (if c.noisy then satInc s.counters.noise else s.counters.noise) ∧
      (s.goodChar c).counters.framing = s.counters.framing := by
  have hnoise : ((if c.noisy then s.bump .noise else s).setRx
      (if c.noisy then s.bump .noise else s).rx.judged).counters =
      (if c.noisy then s.bump .noise else s).counters := rfl
  have hsame := State.sameErrors_frxChar ((if c.noisy then s.bump .noise else s).setRx
    (if c.noisy then s.bump .noise else s).rx.judged) c.data c.tag
  rw [State.goodChar]
  refine ⟨hsame.noise.trans ?_, hsame.framing.trans ?_⟩
  · rw [hnoise]
    cases c.noisy <;> rfl
  · rw [hnoise]
    cases c.noisy <;> rfl

/-- A framing error counts FRAMING alone and sends FRX to Hunt (R8). -/
theorem State.framingError_facts (s : State) :
    s.framingError.counters.noise = s.counters.noise ∧
      s.framingError.counters.framing = satInc s.counters.framing ∧ s.framingError.frx.state = .hunt := by
  have hsame := (State.window_frxDrop ((s.bump .framing).setRx { s.rx with
    inChar := false, gap := none, idle := none, awaitHigh := true })).sameErrors
  exact ⟨hsame.noise, hsame.framing, State.frxDrop_hunt _⟩

/-- What a judged character with a sound start bit counts (R6, R8). -/
theorem State.charReceived_counts (c : RxChar) (ha : s.rx.active = true) (ht : s.tx.phase = .off)
    (hs : c.start = false) :
    let u := s.charReceived c
    u.counters.noise = (if c.stop && c.noisy then satInc s.counters.noise else s.counters.noise) ∧
      u.counters.framing = (if c.stop then s.counters.framing else satInc s.counters.framing) ∧
      (c.stop = false → u.frx.state = .hunt) := by
  have hcount := State.impliedEdge_counters ha ht
  have hafter (v : State) : v.Window (v.unlessHalted State.windowAfterChar) :=
    State.Window.unlessHalted (.refl v) v.window_windowAfterChar
  rw [State.charReceived_of_off c ha ht hs]
  generalize s.impliedEdge = v at hcount
  rw [← hcount]
  cases hstop : c.stop with
  | true =>
    obtain ⟨hnoise, hframing⟩ := v.goodChar_counts c
    have hsame := (hafter (v.goodChar c)).sameErrors
    exact ⟨hsame.noise.trans hnoise, hsame.framing.trans hframing, fun e => nomatch e⟩
  | false =>
    obtain ⟨hnoise, hframing, hhunt⟩ := v.framingError_facts
    have hwindow := hafter v.framingError
    exact ⟨hwindow.sameErrors.noise.trans hnoise, hwindow.sameErrors.framing.trans hframing,
      fun _ => hwindow.hunt hhunt⟩

/-- A good character whose edge was seen is delivered (R6). -/
theorem State.charReceived_good (c : RxChar) (ha : s.rx.active = true) (ht : s.tx.phase = .off)
    (hs : c.start = false) (hstop : c.stop = true) (hc : s.rx.inChar = true) :
    s.charReceived c = (((if c.noisy = true then s.bump .noise else s).setRx { s.rx with
      inChar := false, gap := none, idle := none, stopEnd := true,
      brk := s.rx.brk.runEnd }).frxChar c.data c.tag).unlessHalted State.windowAfterChar := by
  have hrx : (if c.noisy = true then s.bump .noise else s).rx = s.rx := by split <;> rfl
  rw [State.charReceived_of_off c ha ht hs, State.impliedEdge_of_char hc, if_pos hstop, State.goodChar, hrx]
  rfl

/-- Settles O13: what a judged character counts, and where it goes. -/
theorem characterJudged : Obligations.CharacterJudged := by
  intro s c hw ha
  refine ⟨fun ht hs => ?_, fun ht hs hstop hc => ?_, fun ht => ?_⟩
  · exact ⟨_, exec_characterReceived c hw, State.charReceived_counts c ha ht hs⟩
  · rw [exec_characterReceived c hw, State.charReceived_good c ha ht hs hstop hc]
  · refine ⟨_, exec_characterReceived c hw, ?_⟩
    rw [State.charReceived_of_frame c ha ht]
    exact ⟨rfl, rfl, rfl, rfl⟩

end Sys2Proof.Machine
end

section
/-! PROOFS. Detected breaks, at the receiver and at the wake detector (R10, R11, R36, R53, R57, R59, R170). -/

namespace Sys2Proof.Machine

set_option Elab.async false

variable {s t u : State} {k : Fin 2} {m : Message} {i : Snapshot}

/-! ## A detected break, step by step -/

/-- BREAKS has counted, INTSTAT.BRK is set and the detector waits for high (R11). -/
def State.breakSeen (s : State) : State :=
  ((s.bump .breaks).raise .brk).setRx { s.rx with brk := .rearming }

/-- A frame being sent finishes its character (R11). -/
def State.cutFrame (s : State) : State :=
  if s.tx.phase = .frame then s.setTx { s.tx with afterBreak := true } else s

theorem State.breakFound_eq (s : State) :
    s.breakFound = s.breakSeen.breakDrop.cutFrame.unlessHalted State.linkBreak := rfl

theorem State.closes_linkBreak (s : State) : s.Closes s.linkBreak := by
  have h1 : s.Closes (match s.link.state with
      | .guard => s.cancelGuard
      | .sending => s.linkCutShort .brk
      | .awaiting => s.failExchange .brk
      | .disabled => s
      | .idle => s
      | .breaking => s) := by
    cases s.link.state with
    | guard => exact s.closes_cancelGuard
    | sending => exact s.closes_linkCutShort _
    | awaiting => exact s.closes_failExchange _
    | disabled => exact .refl s
    | idle => exact .refl s
    | breaking => exact .refl s
  exact h1.unlessHalted (.ite (fun _ => .checked _ { hunt := fun _ => rfl }) fun _ => .refl _)

/-- A controller that runs is in the middle of nothing that a break would end. -/
def State.Ended (s : State) : Prop :=
  s.halted = true ∨ s.link.state ≠ .guard ∧ s.link.state ≠ .sending ∧ s.link.state ≠ .awaiting

theorem State.ended_of_state {a : LinkState} (h : s.link.state = a) (hg : a ≠ .guard) (hs : a ≠ .sending)
    (ha : a ≠ .awaiting) : s.Ended := .inr ⟨by rw [h]; exact hg, by rw [h]; exact hs, by rw [h]; exact ha⟩

theorem State.Settled.ended (h : s.Settled) : s.Ended := by
  rcases h with h | h | h
  · exact .inl h
  · exact State.ended_of_state h (fun e => nomatch e) (fun e => nomatch e) (fun e => nomatch e)
  · exact State.ended_of_state h (fun e => nomatch e) (fun e => nomatch e) (fun e => nomatch e)

theorem State.settled_cancelGuard (s : State) : s.cancelGuard.Settled :=
  .inr (by rw [s.cancelGuard_facts.1.link]; exact s.toIdle_link_state)

/-- The break-sync of a member leaves the link where it is, or halts (R59). -/
theorem State.ended_breakSync (h : s.Ended) :
    (s.unlessHalted fun s => if s.line.role = .member ∧ s.line.brkSync then
      s.checked (unsound s.listenUnsound .listenParity) fun s =>
        s.syncSlots.setFrx { s.syncSlots.frx with state := .hunt } else s).Ended := by
  cases hh : s.halted with
  | true => rw [State.unlessHalted_of_halted _ hh]; exact .inl hh
  | false =>
    rw [State.unlessHalted_of_not _ hh]
    split
    · cases unsound s.listenUnsound .listenParity with
      | none => exact h
      | some c => exact .inl (s.halted_enterHalt c)
    · exact h

theorem State.ended_linkBreak (s : State) : s.linkBreak.Ended := by
  unfold State.linkBreak
  refine State.ended_breakSync ?_
  cases hs : s.link.state with
  | guard => exact s.settled_cancelGuard.ended
  | sending => exact (s.settled_linkCutShort _).ended
  | awaiting => exact (s.settled_failExchange _).ended
  | disabled => exact State.ended_of_state hs (fun e => nomatch e) (fun e => nomatch e) (fun e => nomatch e)
  | idle => exact State.ended_of_state hs (fun e => nomatch e) (fun e => nomatch e) (fun e => nomatch e)
  | breaking => exact State.ended_of_state hs (fun e => nomatch e) (fun e => nomatch e) (fun e => nomatch e)

theorem State.window_breakDrop (s : State) : s.Window s.breakDrop :=
  .ite (fun _ => s.window_frxHunt) fun _ => s.window_frxDrop

theorem State.breakDrop_hunt (s : State) : s.breakDrop.frx.state = .hunt := by
  unfold State.breakDrop
  split
  · rfl
  · exact s.frxDrop_hunt

theorem State.cutFrame_frame (s : State) :
    s.cutFrame.counters = s.counters ∧ s.cutFrame.glb = s.glb ∧ s.cutFrame.frx = s.frx ∧
      s.cutFrame.halted = s.halted ∧ s.cutFrame.link = s.link ∧ s.cutFrame.slots = s.slots ∧
      s.cutFrame.stn = s.stn ∧ s.cutFrame.listen = s.listen ∧ s.cutFrame.line = s.line ∧
      s.cutFrame.rings = s.rings ∧ s.cutFrame.rxp = s.rxp ∧ s.cutFrame.rx = s.rx ∧
      s.cutFrame.wakeDet = s.wakeDet := by
  unfold State.cutFrame
  split <;> exact ⟨rfl, rfl, rfl, rfl, rfl, rfl, rfl, rfl, rfl, rfl, rfl, rfl, rfl⟩

theorem State.cutFrame_afterBreak (h : s.tx.phase = .frame) : s.cutFrame.tx.afterBreak = true := by
  rw [State.cutFrame, if_pos h]
  rfl

theorem or_or_and_self (a b c : BitVec 10) : (a ||| b ||| c) &&& b = b := by
  ext j
  simp only [BitVec.getElem_and, BitVec.getElem_or]
  cases b[j] <;> simp

/-- What every detected break does (R11). -/
theorem State.breakFound_facts (s : State) :
    let u := s.breakFound
    u.counters.breaks = satInc s.counters.breaks ∧ u.glb.intstat &&& IrqCause.brk.mask = IrqCause.brk.mask ∧
      u.frx.state = .hunt ∧
      (∀ c : Counter, c ≠ .timeouts → c ≠ .breaks → u.counters.get c = s.counters.get c) ∧
      (u.halted = false → u.glb.power = s.glb.power) ∧
      (u.halted = true ∨
        u.link.state ≠ .guard ∧ u.link.state ≠ .sending ∧ u.link.state ≠ .awaiting ∧
          (s.tx.phase = .frame → u.tx.afterBreak = true)) := by
  obtain ⟨hcounters, hglb, hfrx, hhalt, -⟩ := s.breakSeen.breakDrop.cutFrame_frame
  have hdrop := s.breakSeen.window_breakDrop
  have hhunt : s.breakSeen.breakDrop.cutFrame.frx.state = .hunt := by rw [hfrx]; exact State.breakDrop_hunt _
  have hseen : s.breakSeen.counters = s.counters.put .breaks (satInc s.counters.breaks) := rfl
  have hcut (h : s.breakSeen.breakDrop.halted = false) (hp : s.tx.phase = .frame) :
      s.breakSeen.breakDrop.cutFrame.tx.afterBreak = true :=
    State.cutFrame_afterBreak (by rw [hdrop.tx h]; exact hp)
  have hlink : s.breakSeen.breakDrop.cutFrame.Closes s.breakFound := by
    rw [State.breakFound_eq]
    exact State.Closes.unlessHalted (.refl _) (State.closes_linkBreak _)
  have hget (c : Counter) (hc : c ≠ .timeouts) :
      s.breakFound.counters.get c = s.breakSeen.counters.get c := by
    rw [hlink.counters, hcounters]
    exact hdrop.counter c hc
  refine ⟨?_, ?_, hlink.hunt hhunt, fun c ht hb => ?_, fun hh => ?_, ?_⟩
  · exact hget .breaks (fun e => nomatch e)
  · obtain ⟨j, hj⟩ := hlink.causes
    obtain ⟨j', hj'⟩ := hdrop.causes
    rw [hj, hglb, hj', BitVec.or_assoc]
    exact or_or_and_self s.glb.intstat IrqCause.brk.mask (j' ||| j)
  · rw [hget c ht, hseen]
    exact Counters.get_put_other _ _ (Ne.symm hb)
  · have hrun := State.halted_of_monotone hlink.halted hh
    rw [hlink.power hh, hglb]
    exact hdrop.power (hhalt.symm.trans hrun)
  · cases hrun : s.breakSeen.breakDrop.cutFrame.halted with
    | true => exact .inl (hlink.halted hrun)
    | false =>
      have hended : s.breakFound.Ended := by
        rw [State.breakFound_eq, State.unlessHalted_of_not _ hrun]
        exact State.ended_linkBreak _
      rcases hended with hh | ⟨hg, hs, ha⟩
      · exact .inl hh
      · cases hh : s.breakFound.halted with
        | true => exact .inl rfl
        | false =>
          refine .inr ⟨hg, hs, ha, fun hp => ?_⟩
          rw [hlink.tx hh]
          exact hcut (hhalt.symm.trans hrun) hp

theorem exec_breakDetected (h : s.due.awake = true) :
    exec .breakDetected s = .next s.due.breakDetected.settle := congrArg _ (State.event_of_awake _ h)

theorem State.breakDetected_of_run {n : Nat} (ha : s.rx.active = true) (ht : s.tx.phase ≠ .brk)
    (hb : s.rx.brk = .counting n) (hn : 13 ≤ n) : s.breakDetected = s.breakFound := by
  have hgo : (s.detecting && s.rx.brk.reached) = true := by
    rw [State.detecting_of_off ha ht, (BreakDet.reached_iff _).mpr ⟨n, hb, hn⟩]
    rfl
  exact if_pos hgo

/-! ## At a member -/

/-- The state a member's link meets at a break: the frame discarded with no window open or no notice (R11, R31, R59). -/
theorem State.breakSeen_frame (s : State) :
    s.breakSeen.link = s.link ∧ s.breakSeen.slots = s.slots ∧ s.breakSeen.stn = s.stn ∧ s.breakSeen.listen = s.listen ∧
      s.breakSeen.line = s.line ∧ s.breakSeen.rings = s.rings ∧ s.breakSeen.rxp = s.rxp ∧
      s.breakSeen.glb.power = s.glb.power ∧ s.breakSeen.wakeDet = s.wakeDet ∧ s.breakSeen.rx.brk = .rearming ∧
      s.breakSeen.halted = s.halted := ⟨rfl, rfl, rfl, rfl, rfl, rfl, rfl, rfl, rfl, rfl, rfl⟩

theorem State.breakDrop_of_quiet (h : s.line.role = .member ∧ s.line.brkSync = true ∨ s.awaitingReply = false) :
    s.breakDrop = s.frxHunt := by
  unfold State.breakDrop
  split
  · rfl
  next hno => exact State.frxDrop_of_not_awaiting (h.resolve_left hno)

/-- The state in which the link meets the break, where no notice is given. -/
def State.breakMet (s : State) : State := s.breakSeen.frxHunt.cutFrame

theorem State.breakMet_frame (s : State) :
    s.breakMet.link = s.link ∧ s.breakMet.slots = s.slots ∧ s.breakMet.stn = s.stn ∧ s.breakMet.listen = s.listen ∧
      s.breakMet.line = s.line ∧ s.breakMet.rings = s.rings ∧ s.breakMet.rxp = s.rxp ∧
      s.breakMet.glb.power = s.glb.power ∧ s.breakMet.wakeDet = s.wakeDet ∧ s.breakMet.rx.brk = .rearming ∧
      s.breakMet.halted = s.halted := by
  obtain ⟨hlink, hslots, hstn, hlisten, hline, hrings, hrxp, hpower, hdet, hbrk, hhalt⟩ := s.breakSeen_frame
  obtain ⟨-, hglb', -, hhalt', hlink', hslots', hstn', hlisten', hline', hrings', hrxp', hrx', hdet'⟩ :=
    s.breakSeen.frxHunt.cutFrame_frame
  exact ⟨hlink'.trans hlink, hslots'.trans hslots, hstn'.trans hstn, hlisten'.trans hlisten, hline'.trans hline,
    hrings'.trans hrings, hrxp'.trans hrxp, (congrArg Global.power hglb').trans hpower, hdet'.trans hdet,
    (congrArg LineRx.brk hrx').trans hbrk, hhalt'.trans hhalt⟩

theorem State.breakFound_of_quiet (h : s.line.role = .member ∧ s.line.brkSync = true ∨ s.awaitingReply = false)
    (hh : s.halted = false) : s.breakFound = s.breakMet.linkBreak := by
  have hdrop : s.breakSeen.breakDrop = s.breakSeen.frxHunt := State.breakDrop_of_quiet h
  rw [State.breakFound_eq, hdrop]
  exact State.unlessHalted_of_not _ (s.breakMet_frame.2.2.2.2.2.2.2.2.2.2.trans hh)

/-- The end of a break at a member's link: with BRKSYNC every Enabled slot is reset (R59). -/
def State.breakSynced (s : State) : State :=
  if s.line.brkSync = true then s.syncSlots.setFrx { s.syncSlots.frx with state := .hunt } else s

theorem State.breakSynced_frame (s : State) :
    s.breakSynced.link = s.link ∧ s.breakSynced.slots = s.slots ∧ s.breakSynced.stn = s.stn ∧
      s.breakSynced.rxp = s.rxp ∧ s.breakSynced.glb = s.glb ∧ s.breakSynced.wakeDet = s.wakeDet ∧
      s.breakSynced.rx = s.rx := by
  unfold State.breakSynced
  split <;> exact ⟨rfl, rfl, rfl, rfl, rfl, rfl, rfl⟩

theorem State.lsn_breakSynced (s : State) (j : Fin 4) :
    s.breakSynced.lsn j =
      if s.line.brkSync = true ∧ (s.lsn j).enabled = true then (s.lsn j).synced else s.lsn j := by
  cases hb : s.line.brkSync with
  | true =>
    rw [State.breakSynced, if_pos hb]
    exact (s.lsn_syncSlots j).trans (by simp)
  | false => simp [State.breakSynced, hb]

/-- The link's part of a break at a member, once what the link was doing has ended in `v`. -/
theorem State.breakSync_of_member {v : State} (hh : v.halted = false) (hr : v.line.role = .member)
    (hu : v.line.brkSync = true → v.listenUnsound = false) :
    (v.unlessHalted fun s => if s.line.role = .member ∧ s.line.brkSync then
      s.checked (unsound s.listenUnsound .listenParity) fun s =>
        s.syncSlots.setFrx { s.syncSlots.frx with state := .hunt } else s) = v.breakSynced := by
  rw [State.unlessHalted_of_not _ hh, State.breakSynced]
  cases hb : v.line.brkSync with
  | true => simp only [hr, and_self, if_true, hu hb, unsound, Bool.false_eq_true, if_false, State.checked_none]
  | false => simp only [Bool.false_eq_true, and_false, if_false]

theorem State.linkBreak_of_idle (hs : s.link.state = .idle) (hh : s.halted = false) (hr : s.line.role = .member)
    (hu : s.line.brkSync = true → s.listenUnsound = false) : s.linkBreak = s.breakSynced := by
  simp only [State.linkBreak, hs]
  exact State.breakSync_of_member hh hr hu

theorem State.linkBreak_of_awaiting (hs : s.link.state = .awaiting) (hh : (s.failExchange .brk).halted = false)
    (hr : s.line.role = .member) (hu : s.line.brkSync = true → (s.failExchange .brk).listenUnsound = false) :
    s.linkBreak = (s.failExchange .brk).breakSynced := by
  have hline := (s.closes_failExchange .brk).line
  simp only [State.linkBreak, hs]
  exact State.breakSync_of_member hh (by rw [hline]; exact hr) (by rw [hline]; exact hu)

theorem State.listenUnsound_congr (h : ∀ j : Fin 4, (t.lsn j).sound = (s.lsn j).sound) :
    t.listenUnsound = s.listenUnsound := by
  simp only [State.listenUnsound, h]

/-- A break at a member whose link is Idle (R59). -/
theorem State.breakFound_idle (hs : s.link.state = .idle) (hh : s.halted = false) (hr : s.line.role = .member)
    (hu : s.line.brkSync = true → s.listenUnsound = false) :
    let u := s.breakFound
    u.link = s.link ∧ u.slots = s.slots ∧ u.stn = s.stn ∧ u.rxp = s.rxp ∧ u.glb.power = s.glb.power ∧
      u.wakeDet = s.wakeDet ∧ u.rx.brk = .rearming ∧ ∀ j : Fin 4, u.lsn j =
        if s.line.brkSync = true ∧ (s.lsn j).enabled = true then (s.lsn j).synced else s.lsn j := by
  obtain ⟨hlink, hslots, hstn, hlisten, hline, -, hrxp, hpower, hdet, hbrk, hhalt⟩ := s.breakMet_frame
  have hno : s.awaitingReply = false := by rw [State.awaitingReply, hs]; rfl
  have hunsound : s.breakMet.listenUnsound = s.listenUnsound :=
    State.listenUnsound_congr fun j => by rw [State.lsn_congr hlisten]
  rw [State.breakFound_of_quiet (.inr hno) hh, State.linkBreak_of_idle (by rw [hlink]; exact hs) (hhalt.trans hh)
    (by rw [hline]; exact hr) (by rw [hline, hunsound]; exact hu)]
  obtain ⟨hlink', hslots', hstn', hrxp', hglb', hdet', hrx'⟩ := s.breakMet.breakSynced_frame
  refine ⟨hlink'.trans hlink, hslots'.trans hslots, hstn'.trans hstn, hrxp'.trans hrxp,
    (congrArg Global.power hglb').trans hpower, hdet'.trans hdet, (congrArg LineRx.brk hrx').trans hbrk, fun j => ?_⟩
  rw [State.lsn_breakSynced, hline, State.lsn_congr hlisten]

/-- The listen slots after a member's failed attempt: the same but for ResyncWanted (R57). -/
theorem State.lsn_afterFailure {last : Bool} {l : Fin 4} (h : t.listen = (if last then
    s.setLsn l { s.lsn l with resyncWanted := true } else s).listen) (j : Fin 4) :
    (t.lsn j).sound = (s.lsn j).sound ∧ (t.lsn j).enabled = (s.lsn j).enabled ∧
      (t.lsn j).synced = (s.lsn j).synced := by
  cases last with
  | false =>
    rw [State.lsn_congr (s := s) (by exact h)]
    exact ⟨rfl, rfl, rfl⟩
  | true =>
    rw [State.lsn_congr (s := s.setLsn l { s.lsn l with resyncWanted := true }) (by exact h)]
    by_cases hj : l = j
    · subst hj
      rw [State.lsn_setLsn_self]
      exact ⟨rfl, rfl, rfl⟩
    · rw [State.lsn_setLsn_other _ hj]
      exact ⟨rfl, rfl, rfl⟩

theorem State.failExchange_member_halted (c : AttemptCause) (hu : s.exchangeUnsound = none) (hh : s.halted = false)
    (hk : s.link.x.kind = .member) (hx : s.link.x.slot = some k) (hm : s.slot k = some m) (h : s.ReadyIn m i) :
    (s.failExchange c).halted = false := by
  rw [State.failExchange_member c hu hh hk hx hm h, State.halted_toIdle]
  split <;> exact hh

theorem State.exchangeUnsound_congr (hl : t.link = s.link) (hn : t.line = s.line) (hs : t.stn = s.stn)
    (hp : t.listen = s.listen) (hk : t.slots = s.slots) : t.exchangeUnsound = s.exchangeUnsound := by
  have hunsound : t.slotUnsound = s.slotUnsound := funext fun j => by
    rw [State.slotUnsound, State.slotUnsound, State.slot, State.slot, hk]
  have hstation : t.station = s.station := funext fun a => State.station_congr hs a
  have hlsn : t.lsn = s.lsn := funext fun j => State.lsn_congr hp j
  rw [State.exchangeUnsound, State.exchangeUnsound, hl, hn, hstation, hlsn, hunsound]

/-- A break while a member awaits its reply, with BRKSYNC: the attempt fails with BREAK, and every Enabled slot is reset (R57,
R59). -/
theorem State.breakFound_awaits (ha : s.MemberAwaits k m) (hin : s.ReadyIn m i) (hrun : s.ExchangeRuns)
    (hb : s.line.brkSync = true) (hu : s.listenUnsound = false) :
    let u := s.breakFound
    u.link.state = .idle ∧ u.slot k = some (m.afterFailure i .brk false) ∧
      ∀ j : Fin 4, (s.lsn j).enabled = true → u.lsn j = (s.lsn j).synced := by
  obtain ⟨hr, hs, hk, hx, hm⟩ := ha
  obtain ⟨hex, hh, hstays⟩ := hrun
  obtain ⟨hlink, hslots, hstn, hlisten, hline, hrings, -, -, -, -, hhalt⟩ := s.breakMet_frame
  have hbreak : s.breakFound = s.breakMet.linkBreak := State.breakFound_of_quiet (.inl ⟨hr, hb⟩) hh
  have hlsn := State.lsn_congr (s := s) (t := s.breakMet) hlisten
  have hslot : s.breakMet.slot = s.slot := funext fun j => by rw [State.slot, State.slot, hslots]
  have hring : s.breakMet.ring = s.ring := funext fun j => by rw [State.ring, State.ring, hrings]
  have hexch := (State.exchangeUnsound_congr hlink hline hstn hlisten hslots).trans hex
  have hrun0 := hhalt.trans hh
  have hk' : s.breakMet.link.x.kind = .member := by rw [hlink]; exact hk
  have hx' : s.breakMet.link.x.slot = some k := by rw [hlink]; exact hx
  have hm' : s.breakMet.slot k = some m := by rw [hslot]; exact hm
  have hin' : s.breakMet.ReadyIn m i := by
    obtain ⟨h1, h2, h3, h4⟩ := hin
    exact ⟨h1, h2, h3, by rw [hring]; exact h4⟩
  have hrun' := State.failExchange_member_halted .brk hexch hrun0 hk' hx' hm' hin'
  obtain ⟨hslot', -, -, hlink', hlisten'⟩ := State.failExchange_member_facts .brk hexch hrun0 hk' hx' hm' hin'
    (by rw [State.LinkStays, hlink]; exact hstays)
  have hafter := State.lsn_afterFailure hlisten'
  have hline' := (s.breakMet.closes_failExchange .brk).line
  have hunsound : (s.breakMet.failExchange .brk).listenUnsound = false := by
    rw [State.listenUnsound_congr (s := s) fun j => (hafter j).1.trans (congrArg ListenSlot.sound (hlsn j))]
    exact hu
  rw [hbreak, State.linkBreak_of_awaiting (by rw [hlink]; exact hs) hrun' (by rw [hline]; exact hr) fun _ => hunsound]
  obtain ⟨hlink'', hslots'', -⟩ := (s.breakMet.failExchange .brk).breakSynced_frame
  refine ⟨by rw [hlink'', hlink']; rfl, by rw [State.slot, hslots'']; exact hslot', fun j hj => ?_⟩
  have hj' : ((s.breakMet.failExchange .brk).lsn j).enabled = true := by
    rw [(hafter j).2.1, hlsn]
    exact hj
  rw [State.lsn_breakSynced, if_pos ⟨by rw [hline', hline]; exact hb, hj'⟩, (hafter j).2.2, hlsn]

/-- Settles O17: what a detected break does in general, and at a member. -/
theorem breakDetectedActs : Obligations.BreakDetectedActs := by
  refine ⟨fun s n hw ha ht hb hn => ?_, fun s hw hlow => ?_, fun s n hw ha ht hb hn hr hu => ⟨fun hs => ?_,
    fun k m i haw hin hrun hsync => ?_⟩⟩
  · obtain ⟨hbreaks, hint, hhunt, hget, -, hend⟩ := s.due.breakFound_facts
    refine ⟨_, exec_breakDetected hw, ?_⟩
    rw [State.breakDetected_of_run ha ht hb hn]
    exact ⟨hbreaks, hint, hhunt, hget .check (fun e => nomatch e) (fun e => nomatch e),
      hget .format (fun e => nomatch e) (fun e => nomatch e), hget .gap (fun e => nomatch e) (fun e => nomatch e),
      hget .contention (fun e => nomatch e) (fun e => nomatch e), hend⟩
  · have hno : s.due.rx.brk.reached = false := Bool.eq_false_iff.mpr fun h => hlow (beq_iff_eq.mp h)
    rw [exec_breakDetected hw, State.breakDetected_of_not_reached hno]
  · obtain ⟨hlink, hslots, hstn, -, -, -, -, hlsn⟩ := State.breakFound_idle hs (State.halted_of_awake hw) hr hu
    refine ⟨_, exec_breakDetected hw, ?_⟩
    rw [State.breakDetected_of_run ha ht hb hn]
    exact ⟨hlink, hslots, hstn, hlsn⟩
  · intro m1
    obtain ⟨hstate, hslot, hlsn⟩ := State.breakFound_awaits haw hin hrun hsync (hu hsync)
    have hlast : m.lastAttempt false = true ↔ m.attempts = i.e.retry.toNat := by
      rw [Message.lastAttempt_iff hin.1]
      exact or_iff_left Bool.false_ne_true
    refine ⟨_, exec_breakDetected hw, ?_⟩
    rw [State.breakDetected_of_run ha ht hb hn]
    refine ⟨hstate, fun hmore => ?_, fun hl => ?_, hlsn⟩
    · rw [hslot, Message.afterFailure_of_more fun h => hmore (hlast.mp h)]
      rfl
    · rw [hslot, Message.afterFailure_of_last (hlast.mpr hl)]
      rfl

/-! ## The wake detector -/

theorem State.watching_iff (s : State) :
    s.watching = true ↔ s.held = false ∧ s.glb.power = .doze ∧ s.line.role = .member ∧ s.link.en = true := by
  simp [State.watching, and_assoc]

theorem State.atWakeDetector_of_watching (f : State → State) (h : s.due.watching = true) :
    s.atWakeDetector f = (f s.due).settle := if_pos h

theorem exec_wakeHeadCharacter (c : RxChar) (h : s.due.watching = true) :
    exec (.wakeHeadCharacter c) s = .next (s.due.wakeHead c).settle :=
  congrArg _ (State.atWakeDetector_of_watching _ h)

theorem exec_wakeBreak (h : s.due.watching = true) : exec .wakeBreak s = .next s.due.wakeBreakSeen.settle :=
  congrArg _ (State.atWakeDetector_of_watching _ h)

theorem exec_fallingEdge_watching (h : s.due.watching = true) :
    exec .fallingEdge s = .next s.due.wakeEdge.settle := congrArg _ (State.lineEvent_of_watching _ _ h)

theorem exec_breakRunEnd_watching (h : s.due.watching = true) :
    exec .breakRunEnd s = .next s.due.wakeRunEnd.settle := congrArg _ (State.lineEvent_of_watching _ _ h)

/-- A wake from a watching detector: Run, the link Idle where it is enabled and Disabled, and nothing else of the link's
work (R169). -/
theorem State.wake_facts (h : s.watching = true) :
    s.wake.glb.power = .run ∧ s.wake.halted = false ∧ s.wake.counters = s.counters ∧ s.wake.slots = s.slots ∧
      s.wake.rxp = s.rxp ∧ s.wake.listen = s.listen ∧ s.wake.line = s.line ∧ s.wake.wakeDet = .armed ∧
      (s.link.state = .idle ∨ s.link.state = .disabled → s.wake.link.state = .idle) := by
  obtain ⟨hheld, -, -, hen⟩ := s.watching_iff.mp h
  obtain ⟨l, r, f, hw, hstate, -⟩ := State.wake_eq hheld
  rw [hw]
  refine ⟨rfl, rfl, rfl, rfl, rfl, rfl, rfl, rfl, fun hs => hstate.trans ?_⟩
  rcases hs with hs | hs
  · rw [if_neg (by rw [hs]; exact fun h => nomatch h.2), hs]
  · rw [if_pos ⟨hen, hs⟩]

theorem State.setWakeDet_self (s : State) : s.setWakeDet s.wakeDet = s := rfl

/-- One bit time of a watching detector's run, where no row and no disturbance comes (R170). -/
theorem State.tick_of_watching (hu : s.upsets = []) (hw : s.watching = true) : s.tick = s.tickWakeDet := by
  obtain ⟨hheld, hp, -, -⟩ := s.watching_iff.mp hw
  have ha : s.awake = false := Bool.eq_false_iff.mpr fun ha => by
    obtain ⟨-, h⟩ := s.awake_iff.mp ha
    rw [hp] at h
    rcases h with h | h <;> cases h
  have hl : s.live = true := s.live_iff.mpr ⟨hheld, by simp [State.halted, hp]⟩
  have hup : (if s.held then s else s.upset) = s := by simp [State.upset, hu]
  simp only [State.tick, hup, State.due_of_not_awake ha, ha, Bool.false_eq_true, if_false, hl, if_true]

/-- The due starts of a dozing controller are none. -/
theorem State.due_of_doze (h : s.glb.power = .doze) : s.due = s :=
  State.due_of_not_awake (Bool.eq_false_iff.mpr fun ha => by
    obtain ⟨-, hp⟩ := s.awake_iff.mp ha
    rw [h] at hp
    rcases hp with hp | hp <;> cases hp)

/-- The rows and the bit times of a watching detector (R170). -/
theorem wakeDetector_runs (h : s.due.watching = true) :
    (s.due.wakeDet = .armed → exec .fallingEdge s = .next (s.due.setWakeDet (.counting 0)).settle) ∧
      (∀ n : Nat, s.due.wakeDet = .counting n →
        exec .fallingEdge s = .next s.due.settle ∧
        exec .breakRunEnd s = .next (s.due.setWakeDet .armed).settle ∧
        (s.pending = [] → s.upsets = [] → s.glb.power = .doze →
          (n < 13 → step s = .next (s.setWakeDet (.counting (n + 1)))) ∧
          (13 ≤ n → step s = .next s.wakeBreak.settle))) ∧
      (s.due.wakeDet.low ≠ .counting 14 → exec .wakeBreak s = .next s.due.settle) := by
  refine ⟨fun hd => ?_, fun n hd => ⟨?_, ?_, fun hp hu hpow => ?_⟩, fun hlow => ?_⟩
  · rw [exec_fallingEdge_watching h, State.wakeEdge, hd]
    rfl
  · have hedge : s.due.wakeDet.edge = s.due.wakeDet := by rw [hd]; rfl
    rw [exec_fallingEdge_watching h, State.wakeEdge, hedge, State.setWakeDet_self]
  · rw [exec_breakRunEnd_watching h, State.wakeRunEnd, hd]
    rfl
  · rw [State.due_of_doze hpow] at h hd
    have htick := (State.tick_of_watching hu h).trans (State.tickWakeDet_of_watching h)
    refine ⟨fun hn => ?_, fun hn => ?_⟩
    · have hno : ¬s.wakeDet.reached = true := fun hr => by
        obtain ⟨j, hj, hle⟩ := s.wakeDet.reached_iff.mp hr
        rw [hd, BreakDet.counting.injEq] at hj
        omega
      have hmin : min 14 (n + 1) = n + 1 := by omega
      rw [step_of_empty hp, htick, if_neg hno, hd, BreakDet.low, Config.breakRun, hmin]
    · rw [step_of_empty hp, htick, if_pos (s.wakeDet.reached_iff.mpr ⟨n, hd, hn⟩)]
  · have hno : s.due.wakeDet.reached = false := Bool.eq_false_iff.mpr fun hr => hlow (beq_iff_eq.mp hr)
    rw [exec_wakeBreak h, State.wakeBreakSeen_of_not_reached hno]

/-- Settles O12: what the wake detector counts, and what wakes the controller. -/
theorem wakeDetectorWakes : Obligations.WakeDetectorWakes := by
  intro s c h
  obtain ⟨hpower, hrun, hcounters, hslots, hrxp, hlisten, hline, hdet, hidle⟩ := State.wake_facts h
  have hrole := (s.due.watching_iff.mp h).2.2.1
  have hbreak (n : Nat) (hd : s.due.wakeDet = .counting n) (hn : 13 ≤ n) :
      exec .wakeBreak s = .next s.due.wakeBreak.settle := by
    rw [exec_wakeBreak h, State.wakeBreakSeen_of_reached (s.due.wakeDet.reached_iff.mpr ⟨n, hd, hn⟩)]
  obtain ⟨hbreaks, hint, hhunt, hget, hkept, -⟩ := s.due.wake.breakFound_facts
  rw [hcounters] at hbreaks hget
  refine ⟨fun hon => ⟨?_, hpower⟩, fun hon => ?_, wakeDetector_runs h,
    fun n hd hn => ⟨hbreak n hd hn, _, hbreak n hd hn, ?_, hhunt, hbreaks,
      hget .framing (fun e => nomatch e) (fun e => nomatch e), hint⟩, fun n hd hn hs hu => ?_⟩
  · rw [exec_wakeHeadCharacter c h, State.wakeHead, if_pos hon]
  · rw [exec_wakeHeadCharacter c h, State.wakeHead, if_neg (ne_true_of_eq_false hon)]
    simp only [Bool.and_eq_true, Bool.not_eq_true', State.wakeRunEnd]
  · cases hh : s.due.wakeBreak.halted with
    | true => exact .inr rfl
    | false => exact .inl ((hkept hh).trans hpower)
  · obtain ⟨hlink', hslots', -, hrxp', hpower', hdet', hbrk', hlsn'⟩ := State.breakFound_idle (hidle hs) hrun
      (by rw [hline]; exact hrole)
      (by rw [hline, State.listenUnsound_congr (s := s.due) fun j => by rw [State.lsn_congr hlisten]]; exact hu)
    refine ⟨_, hbreak n hd hn, hpower'.trans hpower, hhunt, hbrk', hdet'.trans hdet, ?_, hslots'.trans hslots,
      hrxp'.trans hrxp, hbreaks, hget .framing (fun e => nomatch e) (fun e => nomatch e), fun j => ?_⟩
    · exact (congrArg Link.state hlink').trans (hidle hs)
    · exact (hlsn' j).trans (by rw [hline, State.lsn_congr hlisten])

end Sys2Proof.Machine
end

section
/-! PROOFS. The Frame Receiver: format violations, and the delivery of built frames (R18, R23 to R26, R30, R31). -/

namespace Sys2Proof.Machine

set_option Elab.async false

variable {s t u : State} {r : Frx}

/-! ## Format violations -/

/-- A format violation of a counted frame counts FORMAT once and sends FRX to Hunt (R23). -/
theorem State.formatViolation_facts (h : s.frx.counted = true) :
    s.formatViolation.counters.format = satInc s.counters.format ∧ s.formatViolation.frx.state = .hunt := by
  have hbody : s.formatViolation = (s.bump .format).frxDrop := by rw [State.formatViolation, if_pos h]
  rw [hbody]
  exact ⟨(State.window_frxDrop (s.bump .format)).counter .format (fun e => nomatch e), State.frxDrop_hunt _⟩

theorem State.frxChar_header {g : HeaderField} (b : Byte) (h : s.frx.state = .header g) :
    s.frxChar b false = s.frxHeader g b := by
  simp only [State.frxChar, Bool.false_eq_true, if_false, h]

/-- Settles O20: a violation counts FORMAT and loses the frame; any other header character is kept. -/
theorem formatViolationsFound : Obligations.FormatViolationsFound := by
  intro s g b hs hc bad
  have hfacts := State.formatViolation_facts hc
  rw [State.frxChar_header b hs]
  cases g with
  | source =>
    refine ⟨fun hb => ?_, fun hb => ?_⟩
    · have hv : s.frxHeader .source b = s.formatViolation := if_pos hb
      rw [hv]
      exact hfacts
    · have hv : s.frxHeader .source b = _ := if_neg hb
      rw [hv]
      exact ⟨rfl, fun e => nomatch e⟩
  | control =>
    cases hk : Kind.ofCode (b.extractLsb' 0 4) with
    | none =>
      have hv : s.frxHeader .control b = s.formatViolation := by simp only [State.frxHeader, hk]
      rw [hv]
      exact ⟨fun _ => hfacts, fun hb => absurd trivial (by simpa only [bad, hk] using hb)⟩
    | some k =>
      have hbad : bad ↔ k.permits (b.extractLsb' 5 3) = false ∨ (k.seqFixed = true ∧ b.getLsbD 4 = true) := by
        simp only [bad, hk]
      have hiff : (!k.permits (b.extractLsb' 5 3) || (k.seqFixed && b.getLsbD 4)) = true ↔ bad := by
        rw [hbad]
        simp
      refine ⟨fun hb => ?_, fun hb => ?_⟩
      · have hv : s.frxHeader .control b = s.formatViolation := by
          simp only [State.frxHeader, hk, hiff.mpr hb, if_true]
        rw [hv]
        exact hfacts
      · have hno := Bool.eq_false_iff.mpr fun h => hb (hiff.mp h)
        simp only [State.frxHeader, hk, hno, Bool.false_eq_true, if_false, State.setFrx_counters, State.setFrx_frx]
        refine ⟨trivial, ?_⟩
        split <;> exact fun e => nomatch e
  | port =>
    refine ⟨fun hb => ?_, fun hb => ?_⟩
    · have hv : s.frxHeader .port b = s.formatViolation := if_pos hb
      rw [hv]
      exact hfacts
    · have hv : s.frxHeader .port b = _ := if_neg hb
      rw [hv]
      exact ⟨rfl, fun e => nomatch e⟩
  | length =>
    refine ⟨fun hb => ?_, fun hb => ?_⟩
    · have hv : s.frxHeader .length b = s.formatViolation := if_pos hb
      rw [hv]
      exact hfacts
    · have hv : s.frxHeader .length b = _ := if_neg hb
      rw [hv]
      refine ⟨rfl, ?_⟩
      rw [State.setFrx_frx]
      dsimp only
      split <;> exact fun e => nomatch e

/-! ## The fields of built characters (R18 to R22) -/

theorem addressByte_low (a : LineAddr) : (0#1 ++ a : Byte).extractLsb' 0 7 = a := by
  revert a
  decide

theorem addressByte_msb (a : LineAddr) : (0#1 ++ a : Byte).msb = false := by
  revert a
  decide

theorem portByte_low (p : BitVec 4) : (0#4 ++ p : Byte).extractLsb' 0 4 = p := by
  revert p
  decide

theorem portByte_high (p : BitVec 4) : (0#4 ++ p : Byte).extractLsb' 4 4 = 0 := by
  revert p
  decide

theorem checkBytes_append (c : BitVec 16) : (c.extractLsb' 8 8 ++ c.extractLsb' 0 8 : BitVec 16) = c := by
  have h := BitVec.extractLsb'_append_extractLsb'_eq_extractLsb' (x := c) (start₁ := 0) (len₁ := 8) (start₂ := 8)
    (len₂ := 8) rfl
  rw [h]
  exact BitVec.extractLsb'_eq_self

theorem Kind.ofCode_code (k : Kind) : Kind.ofCode k.code = some k := by
  cases k <;> rfl

theorem controlByte_code (k : Kind) (q : Bool) (d : BitVec 3) : (controlByte k q d).extractLsb' 0 4 = k.code := by
  revert q d
  cases k <;> decide

theorem controlByte_detail (k : Kind) (q : Bool) (d : BitVec 3) : (controlByte k q d).extractLsb' 5 3 = d := by
  revert q d
  cases k <;> decide

theorem controlByte_seq {k : Kind} {q : Bool} (d : BitVec 3) (h : k.seqFixed = true → q = false) :
    (controlByte k q d).getLsbD 4 = q := by
  revert q d
  cases k <;> decide

/-! ## The receiver at each character of a built frame

Each lemma is about FRX in a state of its own over the rest of the state, `s.setFrx r`, and gives FRX's next state. -/

theorem State.frxChar_source (a : LineAddr) (h : r.state = .header .source) :
    (s.setFrx r).frxChar (0#1 ++ a) false =
      s.setFrx { r with crc := crcByte r.crc (0#1 ++ a), src := a, state := .header .control } := by
  rw [State.frxChar_header _ h]
  simp only [State.frxHeader, addressByte_msb, Bool.false_eq_true, if_false, addressByte_low]
  rfl

theorem State.frxChar_control {k : Kind} {q : Bool} {d : BitVec 3} (h : r.state = .header .control)
    (hd : k.permits d = true) (hq : k.seqFixed = true → q = false) :
    (s.setFrx r).frxChar (controlByte k q d) false =
      s.setFrx { r with
        crc := crcByte r.crc (controlByte k q d), kind := k, seq := q, detail := d,
        state := if k = .data then .header .port else .check none } := by
  have hok : (!k.permits d || (k.seqFixed && q)) = false := by
    cases hf : k.seqFixed with
    | false => simp [hd]
    | true => simp [hd, hq hf]
  rw [State.frxChar_header _ h]
  simp only [State.frxHeader, controlByte_code, Kind.ofCode_code, controlByte_detail, controlByte_seq d hq, hok,
    Bool.false_eq_true, if_false]
  rfl

theorem State.frxChar_port (p : BitVec 4) (h : r.state = .header .port) :
    (s.setFrx r).frxChar (0#4 ++ p) false =
      s.setFrx { r with crc := crcByte r.crc (0#4 ++ p), port := p, state := .header .length } := by
  rw [State.frxChar_header _ h]
  simp only [State.frxHeader, portByte_high, ne_eq, not_true_eq_false, if_false, portByte_low]
  rfl

theorem State.frxChar_length {b : Byte} (h : r.state = .header .length) (hb : b.toNat ≤ Config.payloadMax) :
    (s.setFrx r).frxChar b false =
      s.setFrx { r with crc := crcByte r.crc b, length := b, state := if b = 0 then .check none else .body } := by
  rw [State.frxChar_header _ h]
  simp only [State.frxHeader, if_neg (Nat.not_lt.mpr hb)]
  rfl

theorem State.frxChar_body (b : Byte) (h : r.state = .body) :
    (s.setFrx r).frxChar b false =
      s.setFrx { r with
        payload := r.payload ++ [b], crc := crcByte r.crc b,
        state := if r.length.toNat ≤ (r.payload ++ [b]).length then .check none else .body } := by
  simp only [State.frxChar, Bool.false_eq_true, if_false, State.setFrx_frx, h, State.frxBody]
  rfl

theorem State.feed_append (s : State) (l₁ l₂ : List TxChar) : s.feed (l₁ ++ l₂) = (s.feed l₁).feed l₂ :=
  List.foldl_append

theorem State.feed_cons (s : State) (c : TxChar) (l : List TxChar) :
    s.feed (c :: l) = (s.frxChar c.byte c.tag).feed l :=
  rfl

/-- The payload characters that LENGTH promised, one after the other (R26). -/
theorem State.feed_payload (ps : List Byte) : ∀ r : Frx, r.state = (if ps = [] then .check none else .body) →
    r.length.toNat = r.payload.length + ps.length →
    (s.setFrx r).feed (ps.map (⟨·, false⟩)) =
      s.setFrx { r with payload := r.payload ++ ps, crc := ps.foldl crcByte r.crc, state := .check none } := by
  induction ps with
  | nil =>
    intro r hr _
    rw [if_pos rfl] at hr
    rw [List.append_nil, ← hr]
    rfl
  | cons p ps ih =>
    intro r hr hlen
    rw [if_neg (List.cons_ne_nil p ps)] at hr
    rw [List.length_cons] at hlen
    have hlast : r.length.toNat ≤ (r.payload ++ [p]).length ↔ ps = [] := by
      rw [hlen, List.length_append, List.length_singleton, ← List.length_eq_zero_iff]
      omega
    rw [List.map_cons, State.feed_cons, State.frxChar_body p hr, ih]
    · simp only [List.append_assoc, List.singleton_append, List.foldl_cons]
    · simp only [hlast]
    · simp only [hlen, List.length_append, List.length_singleton]
      omega

/-- The two Check characters deliver a frame whose check value agrees, from a source that is valid here (R30). -/
theorem State.feed_check (h : r.state = .check none) (hrole : s.line.role = .anchor → r.dest = 0)
    (hsrc : s.sourceValid r.src = true) :
    ∃ r' : Frx, r'.state = .hunt ∧
      (s.setFrx r).feed [⟨r.crc.extractLsb' 8 8, false⟩, ⟨r.crc.extractLsb' 0 8, false⟩] =
        ((s.setFrx r').setRx { s.rx with gap := none }).validFrame r.frame := by
  have hfirst (b : Byte) : (s.setFrx r).frxChar b false = s.setFrx { r with state := .check (some b) } := by
    simp only [State.frxChar, Bool.false_eq_true, if_false, State.setFrx_frx, h, State.frxCheck]
    rfl
  have hsecond (a b : Byte) : (s.setFrx { r with state := .check (some a) }).frxChar b false =
      (s.setFrx { r with state := .check (some a) }).frxValidate (a ++ b) := by
    simp only [State.frxChar, Bool.false_eq_true, if_false, State.setFrx_frx, State.frxCheck]
  have hcrc : ¬ r.crc ≠ r.crc := fun e => e rfl
  have hdest : ¬ (s.line.role = .anchor ∧ r.dest ≠ 0) := fun e => e.2 (hrole e.1)
  refine ⟨{ r with state := .hunt }, rfl, ?_⟩
  rw [State.feed_cons, State.feed_cons, hfirst, hsecond, checkBytes_append]
  have hvalid : (!(s.setFrx { r with state := .check (some (r.crc.extractLsb' 8 8)) }).sourceValid r.src) = false := by
    rw [Bool.not_eq_false']
    exact hsrc
  exact (if_neg hcrc).trans ((if_neg hdest).trans (if_neg (Bool.eq_false_iff.mp hvalid)))

/-! ## Built frames -/

/-- The head notice of a frame that cancels no pending reply changes the link alone (R31). -/
theorem State.headNotice_eq_setLink (s : State) (a : Bool) (h : ¬(s.link.state = .guard ∧ s.link.x.kind = .member)) :
    ∃ l, s.headNotice a = s.setLink l := by
  rw [State.headNotice, if_neg h]
  split
  · exact ⟨_, rfl⟩
  · exact ⟨s.link, rfl⟩

/-- The Head character of a frame addressed here begins a counted frame (R25, R31). -/
theorem State.frxChar_head {dest : LineAddr} (hs : s.frx.state = .hunt) (hrun : s.halted = false)
    (hrun' : (s.headNotice true).halted = false) (hdest : s.addressed dest = true)
    (hdest' : (s.headNotice true).addressed dest = true) :
    s.frxChar (0#1 ++ dest) true =
      (s.headNotice true).setFrx { state := .header .source, counted := true, dest := dest } := by
  have hcount : (s.headNotice true).countedDest dest = true := by rw [State.countedDest, hdest', Bool.or_true]
  simp only [State.frxChar, if_true, if_pos hs, State.unlessHalted, hrun, Bool.false_eq_true, if_false, State.headChar,
    addressByte_low, addressByte_msb, hdest, hrun', State.frxBegin, hcount]

/-- The characters that the check value covers, received where a counted frame begins, fill its fields (R23, R26). -/
theorem State.feed_frameBody {dest src : LineAddr} {k : Kind} {q : Bool} {d : BitVec 3} {port : BitVec 4}
    {payload : List Byte} (hd : k.permits d = true) (hq : k.seqFixed = true → q = false)
    (hlen : payload.length ≤ Config.payloadMax) (hnone : k ≠ .data → payload = [] ∧ port = 0) :
    ∃ n : Byte, (s.setFrx { state := .header .source, counted := true, dest := dest }).feed
        ((frameBody src k q d port payload).map (⟨·, false⟩)) =
      s.setFrx
        { state := .check none, counted := true, dest := dest, src := src, kind := k, seq := q, detail := d,
          port := port, length := n, payload := payload, crc := crcOf (frameBody src k q d port payload) } := by
  rw [frameBody, List.map_cons, List.map_cons, State.feed_cons, State.feed_cons, State.frxChar_source src rfl,
    State.frxChar_control rfl hd hq]
  by_cases hk : k = .data
  · have hn : (BitVec.ofNat 8 payload.length).toNat = payload.length := by
      rw [BitVec.toNat_ofNat]
      exact Nat.mod_eq_of_lt (Nat.lt_of_le_of_lt hlen (by decide))
    have hzero : BitVec.ofNat 8 payload.length = 0 ↔ payload = [] := by
      rw [← List.length_eq_zero_iff, BitVec.toNat_eq, hn]
      rfl
    refine ⟨BitVec.ofNat 8 payload.length, ?_⟩
    rw [if_pos hk, if_pos hk, List.map_cons, List.map_cons, State.feed_cons, State.feed_cons,
      State.frxChar_port port rfl, State.frxChar_length rfl (hn.symm ▸ hlen), State.feed_payload payload]
    · rfl
    · simp only [hzero]
    · rw [hn]
      exact (Nat.zero_add _).symm
  · obtain ⟨rfl, rfl⟩ := hnone hk
    refine ⟨0, ?_⟩
    rw [if_neg hk, if_neg hk]
    rfl

/-- The characters of a frame after Head, received where a counted frame begins, deliver it (R26, R30). -/
theorem State.feed_afterHead {dest src : LineAddr} {k : Kind} {q : Bool} {d : BitVec 3} {port : BitVec 4}
    {payload : List Byte} (hrole : s.line.role = .anchor → dest = 0) (hsrc : s.sourceValid src = true)
    (hd : k.permits d = true) (hq : k.seqFixed = true → q = false) (hlen : payload.length ≤ Config.payloadMax)
    (hnone : k ≠ .data → payload = [] ∧ port = 0) :
    ∃ r : Frx, r.state = .hunt ∧
      (s.setFrx { state := .header .source, counted := true, dest := dest }).feed
          (frameChars dest src k q d port payload).tail =
        ((s.setFrx r).setRx { s.rx with gap := none }).validFrame
          { dest := dest, src := src, kind := k, seq := q, detail := d, port := port, payload := payload } := by
  obtain ⟨n, hbody⟩ := State.feed_frameBody (s := s) (dest := dest) (src := src) hd hq hlen hnone
  rw [frameChars, List.tail_cons, List.map_append, State.feed_append, hbody]
  exact State.feed_check rfl hrole hsrc

/-- Settles O18: the head notice changes the link alone, so the frame begins; its body fills the fields of FRX, and its
two Check characters carry the value that FRX has computed. -/
theorem builtFramesAreDelivered : Obligations.BuiltFramesAreDelivered := by
  intro s dest src k q d port payload hs hrun hlink hdest hsrc hd hq hlen hnone
  have hrole (h : s.line.role = .anchor) : dest = 0 := by
    rw [State.addressed, h] at hdest
    exact eq_of_beq hdest
  obtain ⟨l, hl⟩ := s.headNotice_eq_setLink true hlink
  have hhead : s.feed (frameChars dest src k q d port payload) =
      ((s.headNotice true).setFrx { state := .header .source, counted := true, dest := dest }).feed
        (frameChars dest src k q d port payload).tail := by
    rw [← State.frxChar_head hs hrun (hl ▸ hrun) hdest (hl ▸ hdest)]
    rfl
  rw [hhead, hl]
  exact State.feed_afterHead (s := s.setLink l) hrole hsrc hd hq hlen hnone

end Sys2Proof.Machine
end
